-- ==== Sys2Proof/Word.lean ====
section
/-! DEFINITION. The value types of the PKA core's host bus.

What a data register holds is not a word type: a Scalar is an unsigned integer of `[0, 2^W)` (spec/00_scope.md section
5.1, spec/10_state.md R31), `W` is a parameter of the core (R7) and every rule computes in unbounded integers (R11), so
a scalar-sized register is a `Nat`. That it stays below `2^W` is the invariant `FitsWidth` of Sys2Proof/Safety.lean
(assumption log 1). -/

namespace Sys2Proof

/-- One byte lane of the host bus (spec/20_memory.md R66). -/
abbrev Byte := BitVec 8

/-- One 32-bit host transfer, control register or command word (spec/20_memory.md R60, spec/30_encoding.md R80). -/
abbrev Word := BitVec 32

end Sys2Proof
end

