-- ==== Sys2Proof/Config.lean ====
section
/-! DEFINITION. What one implementation of the core fixes (spec/00_scope.md R7, R8) and the constants of the
command set `MYENC-CMD v1`. No rule of the spec leaves a result value open, so there is no free value here. -/

namespace Sys2Proof

/-- The reference configuration `NW = 2`, `W = 64` (spec/00_scope.md R7), written as `NW - 1`: the width the state
right after reset has. Every other definition takes `NW` from the state (assumption log 1). -/
def Config.referenceNwIndex : Fin 16 := 1

/-- The register window is 4096 bytes (spec/20_memory.md R60). -/
def Config.windowBytes : Nat := 4096

/-- The page number of the window in the host's address space: OPEN in the spec, so it has no value here
(spec/00_scope.md R8, spec/20_memory.md R60; assumption log 2). -/
opaque Config.basePage : Nat

/-- `BASE`, the host byte address of the window: any multiple of 4096 (spec/20_memory.md R60). -/
def Config.base : Nat := 4096 * Config.basePage

/-- `ID` with its low byte zero: the letters `ME` and the version of the command set (spec/10_state.md R23). -/
def Config.idHigh : Nat := 0x4D450100

end Sys2Proof
end

