-- ==== Sys2Proof/Syntax.lean ====
section
/-! DEFINITION. The 31 commands of `MYENC-CMD v1` (one constructor per row of spec/opcode_table.json) and the steps
of a host script (spec/30_encoding.md R86, spec/10_state.md R21). -/

namespace Sys2Proof

/-- A command. It has no field: operands sit in argument registers at positions fixed per command
(spec/30_encoding.md R80, R85). The order is that of R82. -/
inductive Instr where
  | modadd | modsub | modmul | modmac | modexp | xgcd | modinv
  | rsaKeygen | rsaEncrypt | rsaDecrypt | rsaSign | rsaVerify
  | dhPubkey | dhShared
  | egKeygen | egEncrypt | egDecrypt | egSign | egVerify
  | dsaKeygen | dsaSign | dsaVerify
  | ecOncurve | ecPadd | ecPneg | ecPmul
  | ecKeygen | ecdsaSign | ecdsaVerify | ecegEncrypt | ecegDecrypt
  deriving DecidableEq, Repr

/-- One move of an agent other than a command's own effect: what stands in a host script (spec/30_encoding.md R86)
and in the traces of spec/97_test_programs.md. The list of them in the state is an interleaving of the three agents
of spec/10_state.md R21 (assumption log 3). -/
inductive Event where
  /-- The host reads `bytes` bytes at byte offset `off` of the window; the window supports `bytes = 4` only
  (spec/20_memory.md R62, R67). -/
  | read (off bytes : Nat)
  /-- The host writes `bytes` bytes at byte offset `off`; `v` is the data of a 32-bit write (spec/20_memory.md R63, R67). -/
  | write (off bytes : Nat) (v : Word)
  /-- The engine has its turn; it moves when `BUSY = 1` (spec/10_state.md R42). -/
  | engine
  /-- Reset (spec/70_reset_and_hazards.md R230). -/
  | reset
  deriving DecidableEq, Repr

end Sys2Proof
end

