-- ==== Sys2Proof/WellFormed.lean ====
section
/-! DEFINITION. What makes a command, a command word and a host access well formed. -/

namespace Sys2Proof

/-- A command has no operand field and no form (spec/30_encoding.md R80, R85): every one is well formed. -/
def Instr.wellFormed : Instr → Bool
  | _ => true

/-- The 31 assigned opcodes (spec/30_encoding.md R82). -/
def assignedOpcodes : List Nat :=
  [0x10, 0x11, 0x12, 0x13, 0x14, 0x15, 0x16] ++ [0x20, 0x21, 0x22, 0x23, 0x24] ++ [0x30, 0x31] ++
  [0x40, 0x41, 0x42, 0x43, 0x44] ++ [0x50, 0x51, 0x52] ++ [0x60, 0x61, 0x62, 0x63] ++ [0x64, 0x65, 0x66, 0x67, 0x68]

/-- A legal command word: bits 31:8 zero and an assigned opcode in bits 7:0 (spec/30_encoding.md R81). -/
def legalWord (w : Word) : Bool :=
  w.extractLsb' 8 24 == 0 && assignedOpcodes.contains (w.extractLsb' 0 8).toNat

/-- The offset lies in the window (spec/20_memory.md R60). -/
def inWindow (off : Nat) : Bool := decide (off < Config.windowBytes)

/-- The one access the port supports: 4 bytes at a multiple of 4 (spec/20_memory.md R67). -/
def alignedWord (off bytes : Nat) : Bool := off % 4 == 0 && bytes == 4

/-- An event the core gives a step: an engine turn, a reset, or an aligned 32-bit access inside the window
(spec/20_memory.md R60, R67). -/
def Event.wellFormed : Event → Bool
  | .read off bytes => inWindow off && alignedWord off bytes
  | .write off bytes _ => inWindow off && alignedWord off bytes
  | .engine => true
  | .reset => true

end Sys2Proof
end

