-- ==== Sys2Proof/Decode.lean ====
section
/-! DEFINITION. Decoding of command words (spec/30_encoding.md R80 to R84), total, rejecting by name, and the
encoder. A command word reaches the core as the data of one 32-bit write; its bytes are little-endian on a
byte-addressed host bus (spec/20_memory.md R66). -/

namespace Sys2Proof

/-- Why a word is no command. -/
inductive DecodeError where
  /-- A bit of 31:8 is not zero (spec/30_encoding.md R81, R83). -/
  | nonZeroUpperBits
  /-- Bits 7:0 are none of the 31 opcodes (spec/30_encoding.md R83). -/
  | unassignedOpcode
  /-- The bytes given are not exactly one 32-bit word (spec/30_encoding.md R80: one length). -/
  | notOneWord
  deriving DecidableEq, Repr

/-- The command of an opcode, number by number from the table of spec/30_encoding.md R82. -/
def instrOfOpcode (op : Nat) : Option Instr :=
  match op with
  | 0x10 => some .modadd | 0x11 => some .modsub | 0x12 => some .modmul | 0x13 => some .modmac
  | 0x14 => some .modexp | 0x15 => some .xgcd | 0x16 => some .modinv
  | 0x20 => some .rsaKeygen | 0x21 => some .rsaEncrypt | 0x22 => some .rsaDecrypt
  | 0x23 => some .rsaSign | 0x24 => some .rsaVerify
  | 0x30 => some .dhPubkey | 0x31 => some .dhShared
  | 0x40 => some .egKeygen | 0x41 => some .egEncrypt | 0x42 => some .egDecrypt
  | 0x43 => some .egSign | 0x44 => some .egVerify
  | 0x50 => some .dsaKeygen | 0x51 => some .dsaSign | 0x52 => some .dsaVerify
  | 0x60 => some .ecOncurve | 0x61 => some .ecPadd | 0x62 => some .ecPneg | 0x63 => some .ecPmul
  | 0x64 => some .ecKeygen | 0x65 => some .ecdsaSign | 0x66 => some .ecdsaVerify
  | 0x67 => some .ecegEncrypt | 0x68 => some .ecegDecrypt
  | _ => none

/-- Decoding of a command word: all 32 bits take part (spec/30_encoding.md R81). -/
def decode (w : Word) : Except DecodeError Instr :=
  if w.extractLsb' 8 24 = 0 then
    match instrOfOpcode (w.extractLsb' 0 8).toNat with
    | some i => .ok i
    | none => .error .unassignedOpcode
  else .error .nonZeroUpperBits

/-- The word of four bytes, the first at the lowest address (spec/20_memory.md R66). -/
def wordOfBytes (b0 b1 b2 b3 : Byte) : Word := b3 ++ b2 ++ b1 ++ b0

/-- The bytes of a word, that at the lowest address first (spec/20_memory.md R66). -/
def bytesOfWord (w : Word) : List Byte :=
  [w.extractLsb' 0 8, w.extractLsb' 8 8, w.extractLsb' 16 8, w.extractLsb' 24 8]

/-- Decoding of any bytes: a command is one 32-bit word and nothing else (spec/30_encoding.md R80). -/
def decodeBytes : List Byte → Except DecodeError Instr
  | [b0, b1, b2, b3] => decode (wordOfBytes b0 b1 b2 b3)
  | _ => .error .notOneWord

/-- The encoder: the command word of spec/30_encoding.md R82 and of each command's rule (R101 to R184). -/
def encode : Instr → Word
  | .modadd => 0x00000010 | .modsub => 0x00000011 | .modmul => 0x00000012 | .modmac => 0x00000013
  | .modexp => 0x00000014 | .xgcd => 0x00000015 | .modinv => 0x00000016
  | .rsaKeygen => 0x00000020 | .rsaEncrypt => 0x00000021 | .rsaDecrypt => 0x00000022
  | .rsaSign => 0x00000023 | .rsaVerify => 0x00000024
  | .dhPubkey => 0x00000030 | .dhShared => 0x00000031
  | .egKeygen => 0x00000040 | .egEncrypt => 0x00000041 | .egDecrypt => 0x00000042
  | .egSign => 0x00000043 | .egVerify => 0x00000044
  | .dsaKeygen => 0x00000050 | .dsaSign => 0x00000051 | .dsaVerify => 0x00000052
  | .ecOncurve => 0x00000060 | .ecPadd => 0x00000061 | .ecPneg => 0x00000062 | .ecPmul => 0x00000063
  | .ecKeygen => 0x00000064 | .ecdsaSign => 0x00000065 | .ecdsaVerify => 0x00000066
  | .ecegEncrypt => 0x00000067 | .ecegDecrypt => 0x00000068

/-- The instruction read from a table row's bits `w`: laid out as four bytes, low byte first, and given to
`decodeBytes`; a number with a bit at or above bit 32 is no command word. -/
def decodeTableWord (nbits w : Nat) : Option Instr :=
  let v := w % 2 ^ nbits
  if v < 2 ^ 32 then
    match decodeBytes (bytesOfWord (BitVec.ofNat 32 v)) with
    | .ok i => some i
    | .error _ => none
  else none

end Sys2Proof
end

