-- ==== Sys2Proof/Machine/State.lean ====
section
/-! DEFINITION. The state of the PKA core (spec/10_state.md R22: "the complete architectural state"), the outcome of
a command (R41), and the reasons a step can stop. -/

namespace Sys2Proof.Machine

/-- The result codes of `STATUS.RC`; there are six (spec/60_exceptions.md R201, spec/10_state.md R29). -/
inductive RC where
  | ok | invalidParam | degenerate | verifyFailed | noInverse | illegalCmd
  deriving DecidableEq, Repr

/-- A Point: the identity `O` or a pair of coordinates (spec/00_scope.md R14). Coordinates are integers, computed
exactly (R11). -/
inductive Point where
  | infinity
  | affine (x y : Nat)
  deriving DecidableEq, Repr

/-- A point register: two scalar-sized registers and its `INF` bit (spec/10_state.md R32, R33). -/
structure PointReg where
  x : Nat
  y : Nat
  inf : Bool
  deriving DecidableEq, Repr

/-- The outcome `(rc, warn, r[0..2], pr[0..1], xneg, yneg)` of a command (spec/10_state.md R41). What a command does
not name is zero, and a point it does not name is absent (`none`); the defaults here say that once. -/
structure CmdOutcome where
  rc : RC := .ok
  warn : Bool := false
  r0 : Nat := 0
  r1 : Nat := 0
  r2 : Nat := 0
  pr0 : Option Point := none
  pr1 : Option Point := none
  xneg : Bool := false
  yneg : Bool := false
  deriving DecidableEq, Repr

/-- The whole machine. The registers are those of spec/10_state.md R22; `ID`, `STATUS`, `CTRL`, `PAINF` and `RFLAGS`
are read as words by Machine/Flags.lean and hold exactly the bits below. `script` and `readLog` are the model's own:
the moves still to come and what the host port has answered (assumption log 3). -/
structure State where
  /-- `NW - 1`, with `1 <= NW <= 16` (spec/00_scope.md R7); it is what `ID[7:0]` shows and nothing changes it (R23). -/
  nwIndex : Fin 16
  /-- `CTRL.IE` (spec/10_state.md R24). -/
  ie : Bool
  /-- `STATUS.BUSY` (spec/10_state.md R26). -/
  busy : Bool
  /-- `STATUS.DONE` (spec/10_state.md R27). -/
  done : Bool
  /-- `STATUS.WARN` (spec/10_state.md R28). -/
  warn : Bool
  /-- `STATUS.WERR` (spec/20_memory.md R64, spec/60_exceptions.md R209). -/
  werr : Bool
  /-- `STATUS.RC` (spec/10_state.md R29). -/
  rc : RC
  /-- `CMDLATCH`, the last launched word (spec/10_state.md R30). -/
  cmdLatch : Word
  /-- `A0..A8` (spec/10_state.md R31). -/
  a : Vector Nat 9
  /-- `PA0..PA2` with the bits of `PAINF` (spec/10_state.md R32). -/
  pa : Vector PointReg 3
  /-- `R0..R2` (spec/10_state.md R34). -/
  r : Vector Nat 3
  /-- `PR0..PR1` with their `INF` bits of `RFLAGS` (spec/10_state.md R33, R35). -/
  pr : Vector PointReg 2
  /-- `RFLAGS.XNEG` (spec/10_state.md R35). -/
  xneg : Bool
  /-- `RFLAGS.YNEG` (spec/10_state.md R35). -/
  yneg : Bool
  /-- The model's own: the moves of the three agents still to come, the next one first (spec/10_state.md R21, R43). -/
  script : List Event
  /-- The model's own: the words the port has returned to host reads, the newest first (spec/20_memory.md R62). -/
  readLog : List Word
  deriving DecidableEq, Repr

/-- A fault: the machine stops. The core itself has none (spec/60_exceptions.md: "This core has no traps"). -/
inductive Fault where
  /-- Raised by a host access at an offset of 4096 or more: no address of the core's one address space
  (spec/20_memory.md R60, R61: what lies outside the window belongs to the platform). Safe: the run stops. -/
  | outsideWindow (off : Nat)
  deriving DecidableEq, Repr

/-- A refusal: no meaning is given. -/
inductive Refusal where
  /-- Raised by an arm of `exec` whose command has no meaning yet; no arm uses it any more. Safe. -/
  | notModelled (mnemonic : String)
  /-- Raised by a host access inside the window that is not an aligned 32-bit one: the port refuses it, the core
  changes no state and no data is returned, so the model gives it no step (spec/20_memory.md R67). Safe. -/
  | unsupportedAccess (off bytes : Nat)
  deriving DecidableEq, Repr

/-- The three outcomes of a step of this machine. -/
abbrev Outcome := Host.Outcome State Fault Refusal

/-- A point register at its reset value (spec/10_state.md R45). -/
def PointReg.zero : PointReg := { x := 0, y := 0, inf := false }

/-- The machine right after reset: every register 0 but the constant `ID` (spec/10_state.md R45), in the reference
configuration `NW = 2` (spec/00_scope.md R7), with no move pending and nothing read yet. -/
def State.reset : State where
  nwIndex := Config.referenceNwIndex
  ie := false
  busy := false
  done := false
  warn := false
  werr := false
  rc := .ok
  cmdLatch := 0
  a := .replicate 9 0
  pa := .replicate 3 PointReg.zero
  r := .replicate 3 0
  pr := .replicate 2 PointReg.zero
  xneg := false
  yneg := false
  script := []
  readLog := []

end Sys2Proof.Machine
end

