-- ==== Sys2Proof/Machine/Operands.lean ====
section
/-! DEFINITION. The operand forms: the width, the scalar and point arguments a command reads, and the encoding of a
Point in a point register (spec/00_scope.md section 5.2, spec/10_state.md R31 to R33). -/

namespace Sys2Proof.Machine

/-- `NW`, the words per scalar (spec/00_scope.md R7). -/
def State.NW (s : State) : Nat := s.nwIndex.val + 1

/-- `W = 32 * NW`, the bits per scalar (spec/00_scope.md R7). -/
def State.W (s : State) : Nat := 32 * s.NW

/-- `A[i]`: scalar argument register `Ai` as an unsigned integer (spec/00_scope.md section 5.2). -/
def State.A (s : State) (i : Fin 9) : Nat := s.a.get i

/-- A point register read as a Point: `O` when `INF = 1`, whatever its coordinates hold (spec/10_state.md R32). -/
def PointReg.toPoint (q : PointReg) : Point :=
  if q.inf then .infinity else .affine q.x q.y

/-- `PA[i]`: point argument register `PAi` as a Point (spec/10_state.md R32). -/
def State.P (s : State) (i : Fin 3) : Point := (s.pa.get i).toPoint

/-- The register encoding of a Point (spec/10_state.md R33). -/
def Point.toReg : Point → PointReg
  | .infinity => { x := 0, y := 0, inf := true }
  | .affine x y => { x := x, y := y, inf := false }

/-- What a completion writes to `PRi`: the Point the command gave, or all zero if it gave none (spec/10_state.md R33, R42). -/
def pointResult : Option Point → PointReg
  | some p => p.toReg
  | none => PointReg.zero

/-- Bits `[32*j+31 : 32*j]` of a scalar-sized register (spec/20_memory.md R65). -/
def getWord (v : Nat) (j : Nat) : Word := BitVec.ofNat 32 (v >>> (32 * j))

/-- The register with bits `[32*j+31 : 32*j]` replaced by `w`: the bits above, the new word, the bits
below (spec/20_memory.md R63 (e)). -/
def setWord (v : Nat) (j : Nat) (w : Word) : Nat :=
  (v >>> (32 * (j + 1))) <<< (32 * (j + 1)) + w.toNat <<< (32 * j) + v % 2 ^ (32 * j)

end Sys2Proof.Machine
end

