-- ==== Sys2Proof/Machine/Flags.lean ====
section
/-! DEFINITION. The control and status registers as 32-bit words, the result codes' numbers and the interrupt line
(spec/10_state.md R23 to R29, R32, R35, R36). Reserved bits read as zero. -/

namespace Sys2Proof.Machine

/-- One flag as the bit at position `n` of a word. -/
def flagAt (b : Bool) (n : Nat) : Word := if b then BitVec.twoPow 32 n else 0

/-- The number of a result code (spec/60_exceptions.md R201). -/
def RC.code : RC → Nat
  | .ok => 0
  | .invalidParam => 1
  | .degenerate => 2
  | .verifyFailed => 3
  | .noInverse => 4
  | .illegalCmd => 5

/-- `ID = 0x4D450100 + NW` (spec/10_state.md R23). -/
def State.idWord (s : State) : Word := BitVec.ofNat 32 (Config.idHigh + s.NW)

/-- `CTRL`: bit 0 `IE` (spec/10_state.md R24). -/
def State.ctrlWord (s : State) : Word := flagAt s.ie 0

/-- `STATUS`: bit 0 `BUSY`, 1 `DONE`, 2 `WARN`, 3 `WERR`, 6:4 `RC` (spec/10_state.md R25). -/
def State.statusWord (s : State) : Word :=
  flagAt s.busy 0 ||| flagAt s.done 1 ||| flagAt s.warn 2 ||| flagAt s.werr 3 ||| (BitVec.ofNat 32 s.rc.code <<< 4)

/-- `PAINF`: bit `i` is `PAi.INF` (spec/10_state.md R32). -/
def State.painfWord (s : State) : Word :=
  flagAt (s.pa.get 0).inf 0 ||| flagAt (s.pa.get 1).inf 1 ||| flagAt (s.pa.get 2).inf 2

/-- `RFLAGS`: bit 0 `PR0.INF`, 1 `PR1.INF`, 8 `XNEG`, 9 `YNEG` (spec/10_state.md R35). -/
def State.rflagsWord (s : State) : Word :=
  flagAt (s.pr.get 0).inf 0 ||| flagAt (s.pr.get 1).inf 1 ||| flagAt s.xneg 8 ||| flagAt s.yneg 9

/-- The interrupt output, a level: `CTRL.IE and STATUS.DONE` (spec/10_state.md R36, spec/60_exceptions.md R210). -/
def State.irq (s : State) : Bool := s.ie && s.done

end Sys2Proof.Machine
end

