-- ==== Sys2Proof/Machine/Ops.lean ====
section
/-! DEFINITION. The shared operations: launch (spec/10_state.md R40), completion (R42), failure, which is this core's
form of an exception (spec/60_exceptions.md R200; nothing is returned from, R205), and reset
(spec/70_reset_and_hazards.md R230). -/

namespace Sys2Proof.Machine

/-- Launch of the word `w` (spec/10_state.md R40): nothing but these five changes. -/
def State.launch (s : State) (w : Word) : State :=
  { s with cmdLatch := w, busy := true, done := false, rc := .ok, warn := false }

/-- Completion with the outcome `o` (spec/10_state.md R42): every result register and result flag is rewritten,
nothing else of the core but `RC`, `WARN`, `BUSY` and `DONE` changes. -/
def State.commit (s : State) (o : CmdOutcome) : State :=
  { s with
    r := #v[o.r0, o.r1, o.r2]
    pr := #v[pointResult o.pr0, pointResult o.pr1]
    xneg := o.xneg
    yneg := o.yneg
    rc := o.rc
    warn := o.warn
    busy := false
    done := true }

/-- A command that runs to its end: it completes with the outcome it computed (spec/10_state.md R41, R42). -/
def State.finish (s : State) (o : CmdOutcome) : Outcome := .next (s.commit o)

/-- The outcome of `fail(code)`: every result zero or absent, `WARN` as it was before the `fail`
(spec/10_state.md R41, spec/60_exceptions.md R200). -/
def CmdOutcome.failure (code : RC) (warn : Bool) : CmdOutcome := { rc := code, warn := warn }

/-- `fail(code)` with no warning before it: taking this core's exception (spec/60_exceptions.md R200). -/
def State.fail (s : State) (code : RC) : Outcome := s.finish (.failure code false)

/-- `fail(code)` after the warning test of a DH command gave `warn` (spec/60_exceptions.md R200, spec/42_dh.md R133). -/
def State.failWarned (s : State) (code : RC) (warn : Bool) : Outcome := s.finish (.failure code warn)

/-- The reset event (spec/70_reset_and_hazards.md R230, spec/10_state.md R45): every register at its reset value, a
command in flight abandoned. `NW` is a constant of the core (R231: `ID` is not changed by anything); the script and
the read log belong to the host, not to the core. -/
def State.resetCore (s : State) : State :=
  { State.reset with nwIndex := s.nwIndex, script := s.script, readLog := s.readLog }

end Sys2Proof.Machine
end

