-- ==== Sys2Proof/Machine/Arith.lean ====
section
/-! DEFINITION. The arithmetic every command is built from: the residue and the four datapath primitives
(spec/00_scope.md R9 to R11), and the kernel functions modular exponentiation, extended GCD and modular inverse
(spec/40_kernel.md R105 to R111). Everything is exact: no intermediate value wraps (R11). -/

namespace Sys2Proof.Machine

/-- `mod(v, m)` for an integer `v` and `m >= 1`: the representative in `[0, m)` (spec/00_scope.md R9). -/
def modZ (v : Int) (m : Nat) : Nat := (v % (m : Int)).toNat

/-- `addmod(a, b, m) = mod(a + b, m)` (spec/00_scope.md R10). -/
def addmod (a b m : Nat) : Nat := modZ ((a : Int) + b) m

/-- `submod(a, b, m) = mod(a - b, m)` (spec/00_scope.md R10). -/
def submod (a b m : Nat) : Nat := modZ ((a : Int) - b) m

/-- `mulmod(a, b, m) = mod(a * b, m)` (spec/00_scope.md R10). -/
def mulmod (a b m : Nat) : Nat := modZ ((a : Int) * b) m

/-- `macmod(a, b, c, m) = mod(a * b + c, m)` (spec/00_scope.md R10). -/
def macmod (a b c m : Nat) : Nat := modZ ((a : Int) * b + c) m

/-- The loop of square-and-multiply from bit 0 upward (spec/40_kernel.md R106); `fuel` bounds its rounds. -/
def modexpLoop (m : Nat) : (fuel : Nat) → (r s t : Nat) → Nat
  | 0, r, _, _ => r
  | fuel + 1, r, s, t =>
    if t = 0 then r
    else modexpLoop m fuel (if t % 2 = 1 then mulmod r s m else r) (mulmod s s m) (t / 2)

/-- `modexp(b, e, m)` for `m >= 2` (spec/40_kernel.md R105, R106): one round per bit of `e`. -/
def modexp (b e m : Nat) : Nat := modexpLoop m (e.log2 + 1) 1 (modZ b m) e

/-- The classical recurrence of the extended Euclidean algorithm (spec/40_kernel.md R108); `fuel` bounds the calls. -/
def xgcdRec : (fuel : Nat) → (a b : Nat) → Nat × Int × Int
  | 0, a, _ => (a, 1, 0)
  | fuel + 1, a, b =>
    if b = 0 then (a, 1, 0)
    else
      match xgcdRec fuel b (a % b) with
      | (g, x1, y1) => (g, y1, x1 - ((a / b : Nat) : Int) * y1)

/-- `xgcd(a, b)` (spec/40_kernel.md R108); it ends after at most `b + 1` calls (spec/10_state.md R44). -/
def xgcd (a b : Nat) : Nat × Int × Int := xgcdRec (b + 1) a b

/-- `mod_inverse(a, m)` for `m >= 2`, 0 when there is no inverse (spec/40_kernel.md R111). -/
def modInverse (a m : Nat) : Nat :=
  match xgcd a m with
  | (g, x, _) => if g ≠ 1 then 0 else modZ x m

end Sys2Proof.Machine
end

