-- ==== Sys2Proof/Machine/Kernel.lean ====
section
/-! DEFINITION. The commands of the modular arithmetic kernel (spec/40_kernel.md R101 to R112). -/

namespace Sys2Proof.Machine

/-- `MODADD` (spec/40_kernel.md R101). -/
def execModadd (s : State) : Outcome :=
  let a := s.A 0; let b := s.A 1; let m := s.A 2
  if m < 2 then s.fail .invalidParam
  else s.finish { r0 := addmod a b m }

/-- `MODSUB` (spec/40_kernel.md R102). -/
def execModsub (s : State) : Outcome :=
  let a := s.A 0; let b := s.A 1; let m := s.A 2
  if m < 2 then s.fail .invalidParam
  else s.finish { r0 := submod a b m }

/-- `MODMUL` (spec/40_kernel.md R103). -/
def execModmul (s : State) : Outcome :=
  let a := s.A 0; let b := s.A 1; let m := s.A 2
  if m < 2 then s.fail .invalidParam
  else s.finish { r0 := mulmod a b m }

/-- `MODMAC` (spec/40_kernel.md R104). -/
def execModmac (s : State) : Outcome :=
  let a := s.A 0; let b := s.A 1; let m := s.A 2; let c := s.A 3
  if m < 2 then s.fail .invalidParam
  else s.finish { r0 := macmod a b c m }

/-- The modular exponentiation of the three registers `A0`, `A1`, `A2` that `MODEXP` and the four RSA exponentiations
share (spec/40_kernel.md R107, spec/41_rsa.md R126). -/
def powerCommand (s : State) : Outcome :=
  let b := s.A 0; let e := s.A 1; let m := s.A 2
  if m < 2 then s.fail .invalidParam
  else s.finish { r0 := modexp b e m }

/-- `MODEXP` (spec/40_kernel.md R107). -/
def execModexp (s : State) : Outcome := powerCommand s

/-- `XGCD`: the coefficients as sign and magnitude (spec/40_kernel.md R110). -/
def execXgcd (s : State) : Outcome :=
  match xgcd (s.A 0) (s.A 1) with
  | (g, x, y) =>
    s.finish { r0 := g, r1 := x.natAbs, xneg := decide (x < 0), r2 := y.natAbs, yneg := decide (y < 0) }

/-- `MODINV` (spec/40_kernel.md R112). -/
def execModinv (s : State) : Outcome :=
  let a := s.A 0; let m := s.A 1
  if m < 2 then s.fail .invalidParam
  else
    let v := modInverse a m
    if v = 0 then s.fail .noInverse
    else s.finish { r0 := v }

end Sys2Proof.Machine
end

