-- ==== Sys2Proof/Machine/Dh.lean ====
section
/-! DEFINITION. The Diffie-Hellman commands (spec/42_dh.md R130, R131). -/

namespace Sys2Proof.Machine

/-- The soft warning: the local private key lies outside `[1, p - 2]`, for `p >= 2` (spec/42_dh.md R133). -/
def softWarning (a p : Nat) : Bool := !decide (1 ≤ a ∧ a ≤ p - 2)

/-- `DH_PUBKEY` (spec/42_dh.md R130). -/
def execDhPubkey (s : State) : Outcome :=
  let p := s.A 0; let g := s.A 2; let a := s.A 3
  if p < 2 then s.fail .invalidParam
  else s.finish { warn := softWarning a p, r0 := modexp g a p }

/-- `DH_SHARED` (spec/42_dh.md R131): the warning stands also when the remote key is rejected after it. -/
def execDhShared (s : State) : Outcome :=
  let p := s.A 0; let a := s.A 3; let B := s.A 4
  if p < 2 then s.fail .invalidParam
  else
    let warn := softWarning a p
    if ¬(1 ≤ B ∧ B < p) then s.failWarned .invalidParam warn
    else s.finish { warn := warn, r0 := modexp B a p }

end Sys2Proof.Machine
end

