-- ==== Sys2Proof/Machine/Dsa.lean ====
section
/-! DEFINITION. The DSA commands (spec/44_dsa.md R150 to R152). -/

namespace Sys2Proof.Machine

/-- `DSA_KEYGEN` (spec/44_dsa.md R150). -/
def execDsaKeygen (s : State) : Outcome :=
  let p := s.A 0; let q := s.A 1; let g := s.A 2; let x := s.A 3
  if p < 2 then s.fail .invalidParam
  else if ¬(0 < x ∧ x < q) then s.fail .invalidParam
  else s.finish { r0 := modexp g x p }

/-- `DSA_SIGN` (spec/44_dsa.md R151). -/
def execDsaSign (s : State) : Outcome :=
  let p := s.A 0; let q := s.A 1; let g := s.A 2; let x := s.A 3; let h := s.A 5; let k := s.A 6
  if p < 2 ∨ q < 2 then s.fail .invalidParam
  else
    let r := modZ (modexp g k p) q
    if r = 0 then s.fail .degenerate
    else
      let kinv := modInverse k q
      if kinv = 0 then s.fail .degenerate
      else
        let sig := mulmod kinv (modZ ((h : Int) + (x : Int) * r) q) q
        if sig = 0 then s.fail .degenerate
        else s.finish { r0 := r, r1 := sig }

/-- `DSA_VERIFY` (spec/44_dsa.md R152). -/
def execDsaVerify (s : State) : Outcome :=
  let p := s.A 0; let q := s.A 1; let g := s.A 2; let y := s.A 4; let h := s.A 5
  let r := s.A 7; let sig := s.A 8
  if p < 2 ∨ q < 2 then s.fail .invalidParam
  else if ¬(0 < r ∧ r < q ∧ 0 < sig ∧ sig < q) then s.fail .verifyFailed
  else
    let w := modInverse sig q
    if w = 0 then s.fail .verifyFailed
    else
      let u1 := mulmod h w q
      let u2 := mulmod r w q
      let v := modZ (mulmod (modexp g u1 p) (modexp y u2 p) p) q
      if v ≠ r then s.fail .verifyFailed
      else s.finish { r0 := 1 }

end Sys2Proof.Machine
end

