-- ==== Sys2Proof/Machine/Curve.lean ====
section
/-! DEFINITION. The functions of the elliptic-curve engine: curve membership, point addition with doubling and the
identity, negation, double-and-add (spec/45_ec_group.md R161 to R168). -/

namespace Sys2Proof.Machine

/-- `is_on_curve(P, p, a, b)` (spec/45_ec_group.md R161). -/
def isOnCurve (q : Point) (p a b : Nat) : Bool :=
  match q with
  | .infinity => true
  | .affine x y => modZ ((y : Int) * y) p == modZ ((x : Int) * x * x + a * x + b) p

/-- The sum's coordinates from the slope (spec/45_ec_group.md R164). -/
def pointFromSlope (lam x1 y1 x2 p : Nat) : Point :=
  let x3 := modZ ((lam : Int) * lam - x1 - x2) p
  .affine x3 (modZ ((lam : Int) * ((x1 : Int) - x3) - y1) p)

/-- The division by `den` and the sum's coordinates: no inverse gives the identity (spec/45_ec_group.md R163). -/
def pointFromFraction (num den x1 y1 x2 p : Nat) : Point :=
  let inv := modInverse den p
  if inv = 0 then .infinity else pointFromSlope (mulmod num inv p) x1 y1 x2 p

/-- `point_add(P, Q, p, a)`, the tests in the written order (spec/45_ec_group.md R163). -/
def pointAdd (P Q : Point) (p a : Nat) : Point :=
  match P, Q with
  | .infinity, Q => Q
  | P, .infinity => P
  | .affine x1 y1, .affine x2 y2 =>
    if x1 = x2 ∧ modZ ((y1 : Int) + y2) p = 0 then .infinity
    else if x1 = x2 ∧ y1 = y2 then
      pointFromFraction (modZ (3 * (x1 : Int) * x1 + a) p) (modZ (2 * (y1 : Int)) p) x1 y1 x2 p
    else
      pointFromFraction (modZ ((y2 : Int) - y1) p) (modZ ((x2 : Int) - x1) p) x1 y1 x2 p

/-- `point_neg(P, p)` (spec/45_ec_group.md R166). -/
def pointNeg (P : Point) (p : Nat) : Point :=
  match P with
  | .infinity => .infinity
  | .affine x y => .affine x (modZ ((p : Int) - y) p)

/-- The loop of double-and-add from bit 0 upward (spec/45_ec_group.md R168); `fuel` bounds its rounds. -/
def scalarMultLoop (p a : Nat) : (fuel : Nat) → (acc add : Point) → (e : Nat) → Point
  | 0, acc, _, _ => acc
  | fuel + 1, acc, add, e =>
    if e = 0 then acc
    else scalarMultLoop p a fuel (if e % 2 = 1 then pointAdd acc add p a else acc) (pointAdd add add p a) (e / 2)

/-- `scalar_mult(k, P, p, a)` (spec/45_ec_group.md R168): one round per bit of `k`. -/
def scalarMult (k : Nat) (P : Point) (p a : Nat) : Point := scalarMultLoop p a (k.log2 + 1) .infinity P k

end Sys2Proof.Machine
end

