-- ==== Sys2Proof/Machine/EcGroup.lean ====
section
/-! DEFINITION. The elliptic-curve group commands (spec/45_ec_group.md R162, R165, R167, R169). -/

namespace Sys2Proof.Machine

/-- `EC_ONCURVE`: a predicate, "no" is `R0 = 0` with `RC = OK` (spec/45_ec_group.md R162). -/
def execEcOncurve (s : State) : Outcome :=
  let p := s.A 0; let a := s.A 1; let b := s.A 2; let P := s.P 0
  if p < 2 then s.fail .invalidParam
  else if isOnCurve P p a b then s.finish { r0 := 1 }
  else s.finish { r0 := 0 }

/-- `EC_PADD` (spec/45_ec_group.md R165). -/
def execEcPadd (s : State) : Outcome :=
  let p := s.A 0; let a := s.A 1; let P := s.P 0; let Q := s.P 1
  if p < 2 then s.fail .invalidParam
  else s.finish { pr0 := some (pointAdd P Q p a) }

/-- `EC_PNEG` (spec/45_ec_group.md R167). -/
def execEcPneg (s : State) : Outcome :=
  let p := s.A 0; let P := s.P 0
  if p < 2 then s.fail .invalidParam
  else s.finish { pr0 := some (pointNeg P p) }

/-- `EC_PMUL` (spec/45_ec_group.md R169). -/
def execEcPmul (s : State) : Outcome :=
  let p := s.A 0; let a := s.A 1; let k := s.A 6; let P := s.P 0
  if p < 2 then s.fail .invalidParam
  else s.finish { pr0 := some (scalarMult k P p a) }

end Sys2Proof.Machine
end

