-- ==== Sys2Proof/Machine/EcSchemes.lean ====
section
/-! DEFINITION. The elliptic-curve scheme commands (spec/46_ec_schemes.md R180 to R184). -/

namespace Sys2Proof.Machine

/-- `EC_KEYGEN`: the only command that tests curve membership (spec/46_ec_schemes.md R180). -/
def execEcKeygen (s : State) : Outcome :=
  let p := s.A 0; let a := s.A 1; let b := s.A 2; let d := s.A 4; let G := s.P 0
  if p < 2 then s.fail .invalidParam
  else if !isOnCurve G p a b then s.fail .invalidParam
  else s.finish { pr0 := some (scalarMult d G p a) }

/-- `ECDSA_SIGN` (spec/46_ec_schemes.md R181). -/
def execEcdsaSign (s : State) : Outcome :=
  let p := s.A 0; let a := s.A 1; let n := s.A 3; let d := s.A 4; let h := s.A 5; let k := s.A 6; let G := s.P 0
  if p < 2 ∨ n < 2 then s.fail .invalidParam
  else
    match scalarMult k G p a with
    | .infinity => s.fail .degenerate
    | .affine x _ =>
      let r := modZ x n
      if r = 0 then s.fail .degenerate
      else
        let kinv := modInverse k n
        if kinv = 0 then s.fail .degenerate
        else
          let sig := mulmod kinv (modZ ((h : Int) + (r : Int) * d) n) n
          if sig = 0 then s.fail .degenerate
          else s.finish { r0 := r, r1 := sig }

/-- `ECDSA_VERIFY`: the literal zero tests (spec/46_ec_schemes.md R182, spec/90_conflicts.md C1). -/
def execEcdsaVerify (s : State) : Outcome :=
  let p := s.A 0; let a := s.A 1; let n := s.A 3; let h := s.A 5; let r := s.A 7; let sig := s.A 8
  let G := s.P 0; let Q := s.P 1
  if p < 2 ∨ n < 2 then s.fail .invalidParam
  else if r = 0 ∨ sig = 0 then s.fail .verifyFailed
  else
    let w := modInverse sig n
    if w = 0 then s.fail .verifyFailed
    else
      let u1 := mulmod h w n
      let u2 := mulmod r w n
      match pointAdd (scalarMult u1 G p a) (scalarMult u2 Q p a) p a with
      | .infinity => s.fail .verifyFailed
      | .affine x _ =>
        if modZ x n ≠ r then s.fail .verifyFailed
        else s.finish { r0 := 1 }

/-- `ECEG_ENCRYPT` (spec/46_ec_schemes.md R183). -/
def execEcegEncrypt (s : State) : Outcome :=
  let p := s.A 0; let a := s.A 1; let k := s.A 6; let G := s.P 0; let Q := s.P 1; let M := s.P 2
  if p < 2 then s.fail .invalidParam
  else
    let C1 := scalarMult k G p a
    let S := scalarMult k Q p a
    let C2 := pointAdd M S p a
    s.finish { pr0 := some C1, pr1 := some C2 }

/-- `ECEG_DECRYPT` (spec/46_ec_schemes.md R184). -/
def execEcegDecrypt (s : State) : Outcome :=
  let p := s.A 0; let a := s.A 1; let d := s.A 4; let C1 := s.P 0; let C2 := s.P 1
  if p < 2 then s.fail .invalidParam
  else
    let S := scalarMult d C1 p a
    s.finish { pr0 := some (pointAdd C2 (pointNeg S p) p a) }

end Sys2Proof.Machine
end

