-- ==== Sys2Proof/Machine/Elgamal.lean ====
section
/-! DEFINITION. The ElGamal commands (spec/43_elgamal.md R140 to R144). -/

namespace Sys2Proof.Machine

/-- `EG_KEYGEN` (spec/43_elgamal.md R140). -/
def execEgKeygen (s : State) : Outcome :=
  let p := s.A 0; let g := s.A 2; let x := s.A 3
  if p < 2 then s.fail .invalidParam
  else s.finish { r0 := modexp g x p }

/-- `EG_ENCRYPT` (spec/43_elgamal.md R141). -/
def execEgEncrypt (s : State) : Outcome :=
  let p := s.A 0; let g := s.A 2; let y := s.A 4; let m := s.A 5; let k := s.A 6
  if p < 2 then s.fail .invalidParam
  else
    let c1 := modexp g k p
    let sh := modexp y k p
    let c2 := mulmod m sh p
    s.finish { r0 := c1, r1 := c2 }

/-- `EG_DECRYPT` (spec/43_elgamal.md R142). -/
def execEgDecrypt (s : State) : Outcome :=
  let p := s.A 0; let x := s.A 3; let c1 := s.A 7; let c2 := s.A 8
  if p < 2 then s.fail .invalidParam
  else
    let sh := modexp c1 x p
    let inv := modInverse sh p
    if inv = 0 then s.fail .invalidParam
    else s.finish { r0 := mulmod c2 inv p }

/-- `EG_SIGN` (spec/43_elgamal.md R143): `s = 0` is no failure (spec/90_conflicts.md C2). -/
def execEgSign (s : State) : Outcome :=
  let p := s.A 0; let g := s.A 2; let x := s.A 3; let m := s.A 5; let k := s.A 6
  if p < 3 then s.fail .invalidParam
  else
    let r := modexp g k p
    if r = 0 then s.fail .degenerate
    else
      let kinv := modInverse k (p - 1)
      if kinv = 0 then s.fail .degenerate
      else
        let t := modZ ((m : Int) - (x : Int) * r) (p - 1)
        let sig := mulmod t kinv (p - 1)
        s.finish { r0 := r, r1 := sig }

/-- `EG_VERIFY` (spec/43_elgamal.md R144): the literal "accept iff" condition (spec/90_conflicts.md C2). -/
def execEgVerify (s : State) : Outcome :=
  let p := s.A 0; let g := s.A 2; let y := s.A 4; let m := s.A 5; let r := s.A 7; let sig := s.A 8
  if p < 2 then s.fail .invalidParam
  else if ¬(0 < r ∧ r < p) then s.fail .verifyFailed
  else
    let lhs := mulmod (modexp y r p) (modexp r sig p) p
    let rhs := modexp g m p
    if lhs ≠ rhs then s.fail .verifyFailed
    else s.finish { r0 := 1 }

end Sys2Proof.Machine
end

