-- ==== Sys2Proof/Machine/Rsa.lean ====
section
/-! DEFINITION. The RSA commands (spec/41_rsa.md R120 to R124). -/

namespace Sys2Proof.Machine

/-- `RSA_KEYGEN` (spec/41_rsa.md R120). The one place where a value that does not fit in `W` bits is an error
(spec/00_scope.md R11). -/
def execRsaKeygen (s : State) : Outcome :=
  let p := s.A 0; let q := s.A 1; let e := s.A 2
  if p < 2 ∨ q < 2 then s.fail .invalidParam
  else
    let n := p * q
    if n ≥ 2 ^ s.W then s.fail .invalidParam
    else
      let phi := (p - 1) * (q - 1)
      if ¬(1 < e ∧ e < phi) then s.fail .invalidParam
      else
        let d := modInverse e phi
        if d = 0 then s.fail .invalidParam
        else s.finish { r0 := n, r1 := d }

/-- `RSA_ENCRYPT` (spec/41_rsa.md R121): `A0` = m, `A1` = e, `A2` = n. -/
def execRsaEncrypt (s : State) : Outcome := powerCommand s

/-- `RSA_DECRYPT` (spec/41_rsa.md R122): `A0` = c, `A1` = d, `A2` = n. -/
def execRsaDecrypt (s : State) : Outcome := powerCommand s

/-- `RSA_SIGN` (spec/41_rsa.md R123): `A0` = m, `A1` = d, `A2` = n. -/
def execRsaSign (s : State) : Outcome := powerCommand s

/-- `RSA_VERIFY` (spec/41_rsa.md R124): `A0` = s, `A1` = e, `A2` = n; it returns the recovered value and compares nothing. -/
def execRsaVerify (s : State) : Outcome := powerCommand s

end Sys2Proof.Machine
end

