-- ==== Sys2Proof/Machine/Dispatch.lean ====
section
/-! DEFINITION. `exec`: the completion step of a decoded command, one arm per command (spec/10_state.md R41, R42). -/

namespace Sys2Proof.Machine

def exec (i : Instr) (s : State) : Host.Outcome State Fault Refusal :=
  match i with
  | .modadd => Sys2Proof.Machine.execModadd s
  | .modsub => Sys2Proof.Machine.execModsub s
  | .modmul => Sys2Proof.Machine.execModmul s
  | .modmac => Sys2Proof.Machine.execModmac s
  | .modexp => Sys2Proof.Machine.execModexp s
  | .xgcd => Sys2Proof.Machine.execXgcd s
  | .modinv => Sys2Proof.Machine.execModinv s
  | .rsaKeygen => Sys2Proof.Machine.execRsaKeygen s
  | .rsaEncrypt => Sys2Proof.Machine.execRsaEncrypt s
  | .rsaDecrypt => Sys2Proof.Machine.execRsaDecrypt s
  | .rsaSign => Sys2Proof.Machine.execRsaSign s
  | .rsaVerify => Sys2Proof.Machine.execRsaVerify s
  | .dhPubkey => Sys2Proof.Machine.execDhPubkey s
  | .dhShared => Sys2Proof.Machine.execDhShared s
  | .egKeygen => Sys2Proof.Machine.execEgKeygen s
  | .egEncrypt => Sys2Proof.Machine.execEgEncrypt s
  | .egDecrypt => Sys2Proof.Machine.execEgDecrypt s
  | .egSign => Sys2Proof.Machine.execEgSign s
  | .egVerify => Sys2Proof.Machine.execEgVerify s
  | .dsaKeygen => Sys2Proof.Machine.execDsaKeygen s
  | .dsaSign => Sys2Proof.Machine.execDsaSign s
  | .dsaVerify => Sys2Proof.Machine.execDsaVerify s
  | .ecOncurve => Sys2Proof.Machine.execEcOncurve s
  | .ecPadd => Sys2Proof.Machine.execEcPadd s
  | .ecPneg => Sys2Proof.Machine.execEcPneg s
  | .ecPmul => Sys2Proof.Machine.execEcPmul s
  | .ecKeygen => Sys2Proof.Machine.execEcKeygen s
  | .ecdsaSign => Sys2Proof.Machine.execEcdsaSign s
  | .ecdsaVerify => Sys2Proof.Machine.execEcdsaVerify s
  | .ecegEncrypt => Sys2Proof.Machine.execEcegEncrypt s
  | .ecegDecrypt => Sys2Proof.Machine.execEcegDecrypt s

end Sys2Proof.Machine
end

