-- ==== Sys2Proof/Machine/Window.lean ====
section
/-! DEFINITION. The register window: the address map (spec/20_memory.md R61, spec/10_state.md R22) and the two host
transactions (R62, R63, R64). The offsets given here are multiples of 4 below 4096; Machine/Engine.lean checks that. -/

namespace Sys2Proof.Machine

/-- What stands at a word of the window; `j` is the word of a 16-word slot (spec/20_memory.md R65). -/
inductive Place where
  | id | ctrl | status | cmd | painf | rflags
  | arg (i : Fin 9) (j : Nat)
  | argX (i : Fin 3) (j : Nat)
  | argY (i : Fin 3) (j : Nat)
  | res (i : Fin 3) (j : Nat)
  | resX (i : Fin 2) (j : Nat)
  | resY (i : Fin 2) (j : Nat)
  | reserved
  deriving DecidableEq, Repr

/-- The word of its 64-byte slot that an offset names (spec/20_memory.md R65). -/
def slotWord (off : Nat) : Nat := off % 0x40 / 4

/-- The address map (spec/20_memory.md R61; the slot bases are those of spec/10_state.md R22). -/
def locate (off : Nat) : Place :=
  if off = 0x000 then .id
  else if off = 0x004 then .ctrl
  else if off = 0x008 then .status
  else if off = 0x00C then .cmd
  else if off = 0x010 then .painf
  else if off = 0x014 then .rflags
  else if h : 0x400 ≤ off ∧ off < 0x640 then .arg ⟨(off - 0x400) / 0x40, by omega⟩ (slotWord off)
  else if h : 0x800 ≤ off ∧ off < 0x980 then
    if (off - 0x800) % 0x80 < 0x40 then .argX ⟨(off - 0x800) / 0x80, by omega⟩ (slotWord off)
    else .argY ⟨(off - 0x800) / 0x80, by omega⟩ (slotWord off)
  else if h : 0xC00 ≤ off ∧ off < 0xCC0 then .res ⟨(off - 0xC00) / 0x40, by omega⟩ (slotWord off)
  else if h : 0xE00 ≤ off ∧ off < 0xF00 then
    if (off - 0xE00) % 0x80 < 0x40 then .resX ⟨(off - 0xE00) / 0x80, by omega⟩ (slotWord off)
    else .resY ⟨(off - 0xE00) / 0x80, by omega⟩ (slotWord off)
  else .reserved

/-- Word `j` of a register as the host sees it: words `NW..15` of a slot read as zero (spec/20_memory.md R62, R65). -/
def State.slotRead (s : State) (v : Nat) (j : Nat) : Word := if j < s.NW then getWord v j else 0

/-- The value of `HostRead(off)` (spec/20_memory.md R62). -/
def State.readWord (s : State) (off : Nat) : Word :=
  match locate off with
  | .id => s.idWord
  | .ctrl => s.ctrlWord
  | .status => s.statusWord
  | .cmd => s.cmdLatch
  | .painf => s.painfWord
  | .rflags => s.rflagsWord
  | .arg i j => s.slotRead (s.a.get i) j
  | .argX i j => s.slotRead (s.pa.get i).x j
  | .argY i j => s.slotRead (s.pa.get i).y j
  | .res i j => s.slotRead (s.r.get i) j
  | .resX i j => s.slotRead (s.pr.get i).x j
  | .resY i j => s.slotRead (s.pr.get i).y j
  | .reserved => 0

/-- A write of class (c), (d) or (e): performed when idle, otherwise dropped with `WERR <- 1` (spec/20_memory.md R64). -/
def State.guarded (s : State) (written : State) : State :=
  if s.busy then { s with werr := true } else written

/-- The write of class (a), `CTRL` (spec/20_memory.md R63). -/
def State.writeCtrl (s : State) (v : Word) : State := { s with ie := v.getLsbD 0 }

/-- The write of class (b), `STATUS`: write 1 to clear `DONE` and `WERR` (spec/20_memory.md R63, spec/10_state.md R25). -/
def State.writeStatus (s : State) (v : Word) : State :=
  { s with done := s.done && !v.getLsbD 1, werr := s.werr && !v.getLsbD 3 }

/-- The write of class (d), `PAINF` (spec/20_memory.md R63). -/
def State.writePainf (s : State) (v : Word) : State :=
  { s with
    pa := #v[{ s.pa.get 0 with inf := v.getLsbD 0 }, { s.pa.get 1 with inf := v.getLsbD 1 },
      { s.pa.get 2 with inf := v.getLsbD 2 }] }

/-- Class (e): word `j < NW` of `Ai` (spec/20_memory.md R63). -/
def State.writeArg (s : State) (i : Fin 9) (j : Nat) (v : Word) : State :=
  { s with a := s.a.set i.val (setWord (s.a.get i) j v) i.isLt }

/-- Class (e): word `j < NW` of `PAi.X` (spec/20_memory.md R63). -/
def State.writeArgX (s : State) (i : Fin 3) (j : Nat) (v : Word) : State :=
  { s with pa := s.pa.set i.val { s.pa.get i with x := setWord (s.pa.get i).x j v } i.isLt }

/-- Class (e): word `j < NW` of `PAi.Y` (spec/20_memory.md R63). -/
def State.writeArgY (s : State) (i : Fin 3) (j : Nat) (v : Word) : State :=
  { s with pa := s.pa.set i.val { s.pa.get i with y := setWord (s.pa.get i).y j v } i.isLt }

/-- The effect of `HostWrite(off, v)` (spec/20_memory.md R63, R64). -/
def State.writeWord (s : State) (off : Nat) (v : Word) : State :=
  match locate off with
  | .ctrl => s.writeCtrl v
  | .status => s.writeStatus v
  | .cmd => s.guarded (s.launch v)
  | .painf => s.guarded (s.writePainf v)
  | .arg i j => if j < s.NW then s.guarded (s.writeArg i j v) else s
  | .argX i j => if j < s.NW then s.guarded (s.writeArgX i j v) else s
  | .argY i j => if j < s.NW then s.guarded (s.writeArgY i j v) else s
  | .id => s
  | .rflags => s
  | .res _ _ => s
  | .resX _ _ => s
  | .resY _ _ => s
  | .reserved => s

/-- The byte at byte offset `off` of the window, on a byte-addressed host bus: little-endian inside each word
(spec/20_memory.md R66). A view for statements; the port itself moves whole words only (R67). -/
def State.windowByte (s : State) (off : Nat) : Byte := (s.readWord (off - off % 4)).extractLsb' (8 * (off % 4)) 8

/-- The byte of the window at a host byte address, none outside it (spec/20_memory.md R60, R66). -/
def State.byteAtAddress (s : State) (addr : Nat) : Option Byte :=
  if Config.base ≤ addr ∧ addr < Config.base + Config.windowBytes then some (s.windowByte (addr - Config.base)) else none

end Sys2Proof.Machine
end

