-- ==== Sys2Proof/Machine/Engine.lean ====
section
/-! DEFINITION. The three agents' moves: the engine's completion step (spec/10_state.md R21, R42), the host's
transactions at the port (spec/20_memory.md R62, R63, R67) and reset (spec/70_reset_and_hazards.md R230). -/

namespace Sys2Proof.Machine

/-- The completion step of the latched word: the command it decodes to, or `ILLEGAL_CMD` with everything else zero,
decided from the word alone (spec/10_state.md R41, R42, spec/30_encoding.md R83, spec/60_exceptions.md R203). -/
def completeLatched (s : State) : Outcome :=
  match decode s.cmdLatch with
  | .ok i => exec i s
  | .error _ => s.fail .illegalCmd

/-- The engine's turn: its one step is enabled exactly when `BUSY = 1`; otherwise it does nothing (spec/10_state.md R21). -/
def engineTurn (s : State) : Outcome := if s.busy then completeLatched s else .next s

/-- A host access at the port: outside the window it faults, inside it the port refuses all but aligned 32-bit ones
(spec/20_memory.md R60, R67). -/
def portAccess (off bytes : Nat) (done : State) : Outcome :=
  if !inWindow off then .fault (.outsideWindow off)
  else if !alignedWord off bytes then .refused (.unsupportedAccess off bytes)
  else .next done

/-- `HostRead(off)`: the port returns the word, nothing of the core changes (spec/20_memory.md R62). -/
def State.hostRead (s : State) (off : Nat) : State := { s with readLog := s.readWord off :: s.readLog }

/-- One move of the script, `s` being the state with that move taken off it. -/
def runEvent (e : Event) (s : State) : Outcome :=
  match e with
  | .read off bytes => portAccess off bytes (s.hostRead off)
  | .write off bytes v => portAccess off bytes (s.writeWord off v)
  | .engine => engineTurn s
  | .reset => .next s.resetCore

/-- The state with the first move of its script taken off. -/
def State.popScript (s : State) : State := { s with script := s.script.tail }

/-- A move of the machine: the script's next one; when no host move and no reset is left, the engine's turn, so that
a command in flight completes (spec/70_reset_and_hazards.md R240; assumption log 3). -/
def nextMove (s : State) : Outcome :=
  match s.script with
  | [] => engineTurn s
  | e :: _ => runEvent e s.popScript

/-- The state in which the very next step completes the command word `v`: `v` launched, the engine's turn next
(spec/10_state.md R40, R42). -/
def State.withLaunched (s : State) (v : Word) : State := { s.launch v with script := .engine :: s.script }

end Sys2Proof.Machine
end

