-- ==== Sys2Proof/Machine/Step.lean ====
section
/-! DEFINITION. The step function. -/

namespace Sys2Proof.Machine

/-- One step: one move of one agent (spec/10_state.md R21, spec/20_memory.md R70). -/
def step (s : State) : Host.Outcome State Fault Refusal := nextMove s

/-- The core fetches nothing (spec/10_state.md R20): a command word comes to run by being launched. This is `s` with
the word of the table row launched and the engine's turn next, so that the very next step runs it. -/
def State.withFetchWord (s : State) (nbits w : Nat) : State := s.withLaunched (BitVec.ofNat 32 (w % 2 ^ nbits))

end Sys2Proof.Machine
end

