-- ==== Sys2Proof/Machine/HostScript.lean ====
section
/-! DEFINITION. The host-script notation: primitive lines and pseudo-operations as lists of moves
(spec/30_encoding.md R86, R87). A host program is a list of them; nothing of it is stored in the core. -/

namespace Sys2Proof.Machine

/-- The scalar-sized registers by name (spec/20_memory.md R65). -/
inductive RegName where
  | a (i : Fin 9)
  | paX (i : Fin 3)
  | paY (i : Fin 3)
  | r (i : Fin 3)
  | prX (i : Fin 2)
  | prY (i : Fin 2)
  deriving DecidableEq, Repr

/-- The slot base of a register (spec/10_state.md R22). -/
def slotBase : RegName → Nat
  | .a i => 0x400 + 0x40 * i.val
  | .paX i => 0x800 + 0x80 * i.val
  | .paY i => 0x840 + 0x80 * i.val
  | .r i => 0xC00 + 0x40 * i.val
  | .prX i => 0xE00 + 0x80 * i.val
  | .prY i => 0xE40 + 0x80 * i.val

/-- `WR <off>, <value>` (spec/30_encoding.md R86). -/
def wr (off : Nat) (v : Word) : Event := .write off 4 v

/-- `RD <off>` (spec/30_encoding.md R86). -/
def rd (off : Nat) : Event := .read off 4

/-- `CMD <MNEMONIC>` (spec/30_encoding.md R86). -/
def cmd (i : Instr) : Event := wr 0x00C (encode i)

/-- `LDS <reg>, <v>`: `NW` word writes, the least significant first (spec/30_encoding.md R87). -/
def lds (nw : Nat) (reg : RegName) (v : Nat) : List Event :=
  (List.range nw).map fun j => wr (slotBase reg + 4 * j) (getWord v j)

/-- `LDP PAi, (x, y)`; it does not touch `PAINF` (spec/30_encoding.md R87). -/
def ldp (nw : Nat) (i : Fin 3) (x y : Nat) : List Event := lds nw (.paX i) x ++ lds nw (.paY i) y

/-- `RDS <reg>`: `NW` word reads (spec/30_encoding.md R87). -/
def rds (nw : Nat) (reg : RegName) : List Event := (List.range nw).map fun j => rd (slotBase reg + 4 * j)

/-- `RDP PRi`: both coordinates, then `RFLAGS` (spec/30_encoding.md R87). -/
def rdp (nw : Nat) (i : Fin 2) : List Event := rds nw (.prX i) ++ rds nw (.prY i) ++ [rd 0x014]

/-- `WAIT` (spec/30_encoding.md R87) in the interleaving where the command completes after `polls` polls that read
`BUSY`: the loop's reads and the one completion step (spec/70_reset_and_hazards.md R240). -/
def waitDone (polls : Nat) : List Event := List.replicate polls (rd 0x008) ++ [.engine, rd 0x008]

/-- `name = sum of tj * 2^(32*j)` of the words an `RDS` read, word 0 first (spec/30_encoding.md R87). -/
def valueOfWords : List Word → Nat
  | [] => 0
  | w :: ws => w.toNat + 2 ^ 32 * valueOfWords ws

/-- The Point an `RDP PRi` names: `O` if `f[i] = 1`, else the pair (spec/30_encoding.md R87). -/
def pointOfRead (i : Fin 2) (x y : Nat) (f : Word) : Point := if f.getLsbD i.val then .infinity else .affine x y

end Sys2Proof.Machine
end

