-- ==== Sys2Proof/Safety.lean ====
section
/-! DEFINITION. What the claims speak of: the spec's own state invariant (spec/10_state.md R37), registers within
their width (R31), a supported script, and the parts of the state a completion may and may not touch. -/

namespace Sys2Proof.Machine

/-- The invariants of spec/10_state.md R37 that are not true by the form of the state: `BUSY` and `DONE` never both 1;
`RC = 0` and `WARN = 0` while busy; an identity result has zero coordinates; there is no negative zero. -/
abbrev State.Coherent (s : State) : Prop :=
  (s.busy = true → s.done = false) ∧
  (s.busy = true → s.rc = .ok ∧ s.warn = false) ∧
  (∀ i : Fin 2, (s.pr.get i).inf = true → (s.pr.get i).x = 0 ∧ (s.pr.get i).y = 0) ∧
  (s.xneg = true → s.r.get 1 ≠ 0) ∧
  (s.yneg = true → s.r.get 2 ≠ 0)

/-- Every scalar-sized register holds a Scalar, an integer of `[0, 2^W)` (spec/10_state.md R31 to R34). -/
abbrev State.FitsWidth (s : State) : Prop :=
  (∀ i : Fin 9, s.a.get i < 2 ^ s.W) ∧
  (∀ i : Fin 3, (s.pa.get i).x < 2 ^ s.W ∧ (s.pa.get i).y < 2 ^ s.W) ∧
  (∀ i : Fin 3, s.r.get i < 2 ^ s.W) ∧
  (∀ i : Fin 2, (s.pr.get i).x < 2 ^ s.W ∧ (s.pr.get i).y < 2 ^ s.W)

/-- Every move of the script is one the core gives a step (spec/20_memory.md R60, R67). -/
abbrev State.SupportedScript (s : State) : Prop := ∀ e ∈ s.script, e.wellFormed = true

/-- The scalar argument registers each command reads (spec/30_encoding.md R85). -/
def scalarArguments : Instr → List (Fin 9)
  | .modadd | .modsub | .modmul | .modexp => [0, 1, 2]
  | .modmac => [0, 1, 2, 3]
  | .xgcd | .modinv => [0, 1]
  | .rsaKeygen | .rsaEncrypt | .rsaDecrypt | .rsaSign | .rsaVerify => [0, 1, 2]
  | .dhPubkey => [0, 2, 3]
  | .dhShared => [0, 3, 4]
  | .egKeygen => [0, 2, 3]
  | .egEncrypt => [0, 2, 4, 5, 6]
  | .egDecrypt => [0, 3, 7, 8]
  | .egSign => [0, 2, 3, 5, 6]
  | .egVerify => [0, 2, 4, 5, 7, 8]
  | .dsaKeygen => [0, 1, 2, 3]
  | .dsaSign => [0, 1, 2, 3, 5, 6]
  | .dsaVerify => [0, 1, 2, 4, 5, 7, 8]
  | .ecOncurve => [0, 1, 2]
  | .ecPadd => [0, 1]
  | .ecPneg => [0]
  | .ecPmul => [0, 1, 6]
  | .ecKeygen => [0, 1, 2, 4]
  | .ecdsaSign => [0, 1, 3, 4, 5, 6]
  | .ecdsaVerify => [0, 1, 3, 5, 7, 8]
  | .ecegEncrypt => [0, 1, 6]
  | .ecegDecrypt => [0, 1, 4]

/-- The point argument registers each command reads (spec/30_encoding.md R85). -/
def pointArguments : Instr → List (Fin 3)
  | .modadd | .modsub | .modmul | .modmac | .modexp | .xgcd | .modinv => []
  | .rsaKeygen | .rsaEncrypt | .rsaDecrypt | .rsaSign | .rsaVerify | .dhPubkey | .dhShared => []
  | .egKeygen | .egEncrypt | .egDecrypt | .egSign | .egVerify | .dsaKeygen | .dsaSign | .dsaVerify => []
  | .ecOncurve | .ecPneg | .ecPmul | .ecKeygen | .ecdsaSign => [0]
  | .ecPadd | .ecdsaVerify | .ecegDecrypt => [0, 1]
  | .ecegEncrypt => [0, 1, 2]

/-- The scalar result registers each command gives a value (spec/30_encoding.md R85). -/
def scalarResults : Instr → List (Fin 3)
  | .xgcd => [0, 1, 2]
  | .rsaKeygen | .egEncrypt | .egSign | .dsaSign | .ecdsaSign => [0, 1]
  | .modadd | .modsub | .modmul | .modmac | .modexp | .modinv => [0]
  | .rsaEncrypt | .rsaDecrypt | .rsaSign | .rsaVerify | .dhPubkey | .dhShared => [0]
  | .egKeygen | .egDecrypt | .egVerify | .dsaKeygen | .dsaVerify | .ecOncurve | .ecdsaVerify => [0]
  | .ecPadd | .ecPneg | .ecPmul | .ecKeygen | .ecegEncrypt | .ecegDecrypt => []

/-- The point result registers each command gives a value (spec/30_encoding.md R85). -/
def pointResults : Instr → List (Fin 2)
  | .ecegEncrypt => [0, 1]
  | .ecPadd | .ecPneg | .ecPmul | .ecKeygen | .ecegDecrypt => [0]
  | .modadd | .modsub | .modmul | .modmac | .modexp | .xgcd | .modinv => []
  | .rsaKeygen | .rsaEncrypt | .rsaDecrypt | .rsaSign | .rsaVerify | .dhPubkey | .dhShared => []
  | .egKeygen | .egEncrypt | .egDecrypt | .egSign | .egVerify | .dsaKeygen | .dsaSign | .dsaVerify => []
  | .ecOncurve | .ecdsaSign | .ecdsaVerify => []

/-- Two states agree, as the command reads them, on the registers the command reads, and on the width, which only
`RSA_KEYGEN` depends on (spec/30_encoding.md R85, spec/00_scope.md R11, R13). -/
abbrev State.SameArguments (i : Instr) (s t : State) : Prop :=
  (i = .rsaKeygen → s.nwIndex = t.nwIndex) ∧ (∀ k ∈ scalarArguments i, s.A k = t.A k) ∧
  (∀ k ∈ pointArguments i, s.P k = t.P k)

/-- The results a completion writes agree (spec/10_state.md R42). -/
abbrev State.SameResults (s t : State) : Prop :=
  s.r = t.r ∧ s.pr = t.pr ∧ s.xneg = t.xneg ∧ s.yneg = t.yneg ∧ s.rc = t.rc ∧ s.warn = t.warn

/-- All that a completion leaves alone is the same: `NW`, `CTRL`, `WERR`, `CMDLATCH`, every argument register with
`PAINF`, and the host's side (spec/10_state.md R42, spec/60_exceptions.md R200). -/
abbrev State.SameOutsideResults (s t : State) : Prop :=
  s.nwIndex = t.nwIndex ∧ s.ie = t.ie ∧ s.werr = t.werr ∧ s.cmdLatch = t.cmdLatch ∧ s.a = t.a ∧ s.pa = t.pa ∧
  s.script = t.script ∧ s.readLog = t.readLog

end Sys2Proof.Machine
end

