-- ==== Sys2Proof/Certificates/Slice0/Obligations.lean ====
section
/-! DEFINITION. The statements for the provers. In each, `s.commit o` is the state after completion with outcome `o`
(spec/10_state.md R42), whose every field CompletionRewritesEveryResult gives; an outcome names only what the command
writes, the rest is zero, no warning, code `OK`. `s.A i` and `s.P i` are the argument registers `Ai` and `PAi`. -/

open Sys2Proof Sys2Proof.Machine

/-! ### Encoding -/

/-- R82: words written out from the opcode map, one per family and more, read as their commands. -/
def Obligations.WordsOfTheOpcodeMapDecode : Prop :=
  decode 0x00000010#32 = .ok .modadd ∧ decode 0x00000016#32 = .ok .modinv ∧ decode 0x00000024#32 = .ok .rsaVerify ∧
  decode 0x00000031#32 = .ok .dhShared ∧ decode 0x00000043#32 = .ok .egSign ∧ decode 0x00000052#32 = .ok .dsaVerify ∧
  decode 0x00000063#32 = .ok .ecPmul ∧ decode 0x00000068#32 = .ok .ecegDecrypt

/-- R81, R82: decoding and encoding agree in both directions on all 2^32 words and all 31 commands; in particular the
decoding of every command's encoding is that command. -/
def Obligations.DecodeAcceptsExactlyTheEncodings : Prop :=
  ∀ (w : Word) (i : Instr), decode w = .ok i ↔ w = encode i

/-- R81: a word is a command exactly when bits 31:8 are zero and bits 7:0 are one of the 31 opcodes. -/
def Obligations.LegalWordsAreTheThirtyOneOpcodes : Prop :=
  ∀ w : Word, (∃ i, decode w = .ok i) ↔
    (w.toNat / 256 = 0 ∧ w.toNat % 256 ∈
      [0x10, 0x11, 0x12, 0x13, 0x14, 0x15, 0x16, 0x20, 0x21, 0x22, 0x23, 0x24, 0x30, 0x31, 0x40, 0x41, 0x42, 0x43, 0x44,
        0x50, 0x51, 0x52, 0x60, 0x61, 0x62, 0x63, 0x64, 0x65, 0x66, 0x67, 0x68])

/-! ### The step, launch, completion, reset -/

/-- R21, R42: with a command in flight whose word decodes to `i`, a step in which the engine moves is `exec i`, after
the engine's move is taken off the script; so is a step with no move left in the script (the script is the model's own,
assumption log 3). -/
def Obligations.BusyStepRunsTheDecodedCommand : Prop :=
  ∀ (s : State) (i : Instr), s.busy = true → decode s.cmdLatch = .ok i →
    (s.script = [] → step s = exec i s) ∧
    (∀ es, s.script = .engine :: es → step s = exec i { s with script := es })

/-- The model's form of starting a command (assumption log 4): after `withFetchWord` on a row's 32 bits the very next
step is `exec` of the row's command on the launched state. -/
def Obligations.PlacedCommandRunsAtTheNextStep : Prop :=
  ∀ (s : State) (i : Instr), step (s.withFetchWord 32 (encode i).toNat) = exec i (s.launch (encode i))

/-- R83: a word that is no command, written to `CMD` while idle, is launched like any other and completes with
`ILLEGAL_CMD` and every result zero, whatever the arguments hold; nothing else changes. -/
def Obligations.IllegalWordCompletesWithIllegalCmd : Prop :=
  ∀ (s : State) (w : Word), s.busy = false → s.script = [] →
    (w.toNat / 256 ≠ 0 ∨ w.toNat % 256 ∉
      [0x10, 0x11, 0x12, 0x13, 0x14, 0x15, 0x16, 0x20, 0x21, 0x22, 0x23, 0x24, 0x30, 0x31, 0x40, 0x41, 0x42, 0x43, 0x44,
        0x50, 0x51, 0x52, 0x60, 0x61, 0x62, 0x63, 0x64, 0x65, 0x66, 0x67, 0x68]) →
    ∃ t, step (s.writeWord 0x00C w) = .next t ∧ t.rc = .illegalCmd ∧ t.warn = false ∧ t.r = #v[0, 0, 0] ∧
      t.pr = #v[⟨0, 0, false⟩, ⟨0, 0, false⟩] ∧ t.xneg = false ∧ t.yneg = false ∧ t.busy = false ∧ t.done = true ∧
      t.cmdLatch = w ∧ t.SameOutsideResults { s with cmdLatch := w }

/-- R40: the write of a word to `CMD` while idle latches it, sets `BUSY`, clears `DONE`, `RC` and `WARN`, and changes
nothing else; the word is not checked. -/
def Obligations.CmdWriteWhileIdleLaunches : Prop :=
  ∀ (s : State) (w : Word), s.busy = false →
    s.writeWord 0x00C w = { s with cmdLatch := w, busy := true, done := false, rc := .ok, warn := false }

/-- R42, R33: what a completion writes, register by register, and that it leaves the rest alone. -/
def Obligations.CompletionRewritesEveryResult : Prop :=
  ∀ (s : State) (o : CmdOutcome) (x y : Nat),
    (s.commit o).r.get 0 = o.r0 ∧ (s.commit o).r.get 1 = o.r1 ∧ (s.commit o).r.get 2 = o.r2 ∧
    (o.pr0 = none → (s.commit o).pr.get 0 = ⟨0, 0, false⟩) ∧
    (o.pr0 = some .infinity → (s.commit o).pr.get 0 = ⟨0, 0, true⟩) ∧
    (o.pr0 = some (.affine x y) → (s.commit o).pr.get 0 = ⟨x, y, false⟩) ∧
    (o.pr1 = none → (s.commit o).pr.get 1 = ⟨0, 0, false⟩) ∧
    (o.pr1 = some .infinity → (s.commit o).pr.get 1 = ⟨0, 0, true⟩) ∧
    (o.pr1 = some (.affine x y) → (s.commit o).pr.get 1 = ⟨x, y, false⟩) ∧
    (s.commit o).xneg = o.xneg ∧ (s.commit o).yneg = o.yneg ∧ (s.commit o).rc = o.rc ∧ (s.commit o).warn = o.warn ∧
    (s.commit o).busy = false ∧ (s.commit o).done = true ∧ (s.commit o).SameOutsideResults s

/-- R200: after a failed command every result register and result flag is zero, `DONE` is set, `irq` is up if enabled, and
`WARN` is set by a DH command only (by `DH_SHARED`: `DH_PUBKEY` has no test after its warning); everything outside the
results is unchanged. -/
def Obligations.FailedCommandLeavesZeroResults : Prop :=
  ∀ (i : Instr) (s t : State), exec i s = .next t → t.rc ≠ .ok →
    t.r = #v[0, 0, 0] ∧ t.pr = #v[⟨0, 0, false⟩, ⟨0, 0, false⟩] ∧ t.xneg = false ∧ t.yneg = false ∧
    t.busy = false ∧ t.done = true ∧ t.irq = s.ie ∧ (t.warn = true → i = .dhShared) ∧ t.SameOutsideResults s

/-- The frame of all 31 commands (R13, R42): every command answers a next state, and only the result registers, the
result flags and `STATUS` differ in it; every word of the window outside `STATUS`, `RFLAGS` and the result slots reads
as before, and `WERR` within `STATUS` is kept. -/
def Obligations.EveryCommandCompletesAndKeepsItsFrame : Prop :=
  ∀ (i : Instr) (s : State), ∃ t, exec i s = .next t ∧ t.busy = false ∧ t.done = true ∧ t.SameOutsideResults s ∧
    (∀ off, off ≠ 0x008 → off ≠ 0x014 → ¬(0xC00 ≤ off ∧ off < 0xCC0) → ¬(0xE00 ≤ off ∧ off < 0xF00) →
      t.readWord off = s.readWord off)

/-- R85, R13: a command reads only the registers its row of the table lists: two states that agree on those, whatever
else they hold, give the same results (the width matters to `RSA_KEYGEN` only); and the result registers the row does
not list are written 0. -/
def Obligations.CommandsUseTheTabulatedRegisters : Prop :=
  ∀ (i : Instr) (s s' : State), exec i s = .next s' →
    (∀ t t' : State, State.SameArguments i s t → exec i t = .next t' → s'.SameResults t') ∧
    (∀ k : Fin 3, k ∉ scalarResults i → s'.r.get k = 0) ∧
    (∀ k : Fin 2, k ∉ pointResults i → s'.pr.get k = ⟨0, 0, false⟩)

/-- R202: the codes each command can end with. -/
def Obligations.ResultCodesPerCommand : Prop :=
  ∀ (i : Instr) (s t : State), exec i s = .next t →
    t.rc ∈ (match i with
      | .xgcd => [RC.ok]
      | .modinv => [RC.ok, .invalidParam, .noInverse]
      | .egSign | .dsaSign | .ecdsaSign => [RC.ok, .invalidParam, .degenerate]
      | .egVerify | .dsaVerify | .ecdsaVerify => [RC.ok, .invalidParam, .verifyFailed]
      | .modadd | .modsub | .modmul | .modmac | .modexp | .rsaKeygen | .rsaEncrypt | .rsaDecrypt | .rsaSign | .rsaVerify
      | .dhPubkey | .dhShared | .egKeygen | .egEncrypt | .egDecrypt | .dsaKeygen | .ecOncurve | .ecPadd | .ecPneg
      | .ecPmul | .ecKeygen | .ecegEncrypt | .ecegDecrypt => [RC.ok, .invalidParam])

/-- Result flags (R28, R35, R133): only the DH commands set `WARN`, only `XGCD` sets `XNEG` and `YNEG`. -/
def Obligations.OnlyDhWarnsAndOnlyXgcdSetsSigns : Prop :=
  ∀ (i : Instr) (s t : State), exec i s = .next t →
    (t.warn = true → i = .dhPubkey ∨ i = .dhShared) ∧ (t.xneg = true → i = .xgcd) ∧ (t.yneg = true → i = .xgcd)

/-- R208: for the three comparing verifiers `R0 = 1` exactly when `RC = OK`, otherwise `R0 = 0`, and the code tells a
rejection from invalid parameters. -/
def Obligations.VerifierAnswerMirrorsResultCode : Prop :=
  ∀ (i : Instr) (s t : State), i = .egVerify ∨ i = .dsaVerify ∨ i = .ecdsaVerify → exec i s = .next t →
    (t.r.get 0 = 1 ↔ t.rc = .ok) ∧ (t.rc ≠ .ok → t.r.get 0 = 0 ∧ (t.rc = .verifyFailed ∨ t.rc = .invalidParam))

/-- R230, R231: a reset in any state, with a command in flight too, leaves the core with every word of the window
zero but `ID`, which is `0x4D450100 + NW`, and `irq` low. -/
def Obligations.ResetClearsEveryRegister : Prop :=
  ∀ (s : State) (es : List Event), s.script = .reset :: es →
    ∃ t, step s = .next t ∧ t.script = es ∧ t.irq = false ∧ t.busy = false ∧
      t.readWord 0x000 = BitVec.ofNat 32 (0x4D450100 + s.NW) ∧ (∀ off, off ≠ 0 → t.readWord off = 0)

/-- R36, R210: `irq` is `IE and DONE`: it is up after a completion, failed or not, exactly when `IE = 1`, it falls at a
launch, at a reset and when the host clears `DONE` or `IE`, and it rises when the host sets `IE` while `DONE = 1`. -/
def Obligations.InterruptLineFollowsDoneAndEnable : Prop :=
  ∀ (s : State) (o : CmdOutcome) (w : Word),
    ((s.irq = true) ↔ (s.ie = true ∧ s.done = true)) ∧ (s.commit o).irq = s.ie ∧ (s.launch w).irq = false ∧
    s.resetCore.irq = false ∧
    (s.writeWord 0x008 w).irq = (s.irq && !w.getLsbD 1) ∧ (s.writeWord 0x004 w).irq = (w.getLsbD 0 && s.done)

/-! ### The register window -/

/-- R63, R68: a supported write is one step with its effect, `writeWord`, and returns nothing. -/
def Obligations.SupportedWriteIsOneStep : Prop :=
  ∀ (s : State) (off : Nat) (v : Word) (es : List Event), off < 4096 → off % 4 = 0 → s.script = .write off 4 v :: es →
    step s = .next ({ s with script := es }.writeWord off v)

/-- R62: a supported read is one step in which the port returns the word and nothing of the core changes; the word is, at
every offset of the window: the control register, word `j` of the slot (zero for `j >= NW`), zero everywhere else. -/
def Obligations.HostReadReturnsTheWordAndChangesNothing : Prop :=
  ∀ s : State,
    (∀ off es, off < 4096 → off % 4 = 0 → s.script = .read off 4 :: es →
      step s = .next { s with script := es, readLog := s.readWord off :: s.readLog }) ∧
    s.readWord 0x000 = s.idWord ∧ s.readWord 0x004 = s.ctrlWord ∧ s.readWord 0x008 = s.statusWord ∧
    s.readWord 0x00C = s.cmdLatch ∧ s.readWord 0x010 = s.painfWord ∧ s.readWord 0x014 = s.rflagsWord ∧
    (∀ (j : Nat), j < 16 →
      (∀ i : Fin 9, (s.readWord (0x400 + 0x40 * i.val + 4 * j)).toNat = if j < s.NW then s.a.get i / 2 ^ (32 * j) % 2 ^ 32 else 0) ∧
      (∀ i : Fin 3, (s.readWord (0x800 + 0x80 * i.val + 4 * j)).toNat = if j < s.NW then (s.pa.get i).x / 2 ^ (32 * j) % 2 ^ 32 else 0) ∧
      (∀ i : Fin 3, (s.readWord (0x840 + 0x80 * i.val + 4 * j)).toNat = if j < s.NW then (s.pa.get i).y / 2 ^ (32 * j) % 2 ^ 32 else 0) ∧
      (∀ i : Fin 3, (s.readWord (0xC00 + 0x40 * i.val + 4 * j)).toNat = if j < s.NW then s.r.get i / 2 ^ (32 * j) % 2 ^ 32 else 0) ∧
      (∀ i : Fin 2, (s.readWord (0xE00 + 0x80 * i.val + 4 * j)).toNat = if j < s.NW then (s.pr.get i).x / 2 ^ (32 * j) % 2 ^ 32 else 0) ∧
      (∀ i : Fin 2, (s.readWord (0xE40 + 0x80 * i.val + 4 * j)).toNat = if j < s.NW then (s.pr.get i).y / 2 ^ (32 * j) % 2 ^ 32 else 0)) ∧
    (∀ off, off % 4 = 0 → off < 4096 →
      (0x018 ≤ off ∧ off < 0x400) ∨ (0x640 ≤ off ∧ off < 0x800) ∨ (0x980 ≤ off ∧ off < 0xC00) ∨
        (0xCC0 ≤ off ∧ off < 0xE00) ∨ 0xF00 ≤ off → s.readWord off = 0)

/-- R23, R24, R25, R32, R35: the bits of the five control and status registers; every bit not named reads zero. -/
def Obligations.ControlRegisterLayout : Prop :=
  ∀ s : State,
    s.idWord.toNat = 0x4D450100 + s.NW ∧
    s.ctrlWord.toNat = s.ie.toNat ∧
    s.statusWord.toNat = s.busy.toNat + 2 * s.done.toNat + 4 * s.warn.toNat + 8 * s.werr.toNat +
      16 * (match s.rc with | .ok => 0 | .invalidParam => 1 | .degenerate => 2 | .verifyFailed => 3 | .noInverse => 4 | .illegalCmd => 5) ∧
    s.painfWord.toNat = (s.pa.get 0).inf.toNat + 2 * (s.pa.get 1).inf.toNat + 4 * (s.pa.get 2).inf.toNat ∧
    s.rflagsWord.toNat = (s.pr.get 0).inf.toNat + 2 * (s.pr.get 1).inf.toNat + 256 * s.xneg.toNat + 512 * s.yneg.toNat

/-- R63 (a), (b), (d), (f): the writes of `CTRL` and `STATUS` at any time, of `PAINF` while idle, and that every other
location (not `CMD`, not an argument word `j < NW`) ignores a write. -/
def Obligations.HostWriteToControlAndReadOnlyLocations : Prop :=
  ∀ (s : State) (v : Word),
    s.writeWord 0x004 v = { s with ie := v.getLsbD 0 } ∧
    s.writeWord 0x008 v = { s with done := s.done && !v.getLsbD 1, werr := s.werr && !v.getLsbD 3 } ∧
    (s.busy = false →
      (∀ i : Fin 3, ((s.writeWord 0x010 v).pa.get i).inf = v.getLsbD i.val ∧
        ((s.writeWord 0x010 v).pa.get i).x = (s.pa.get i).x ∧ ((s.writeWord 0x010 v).pa.get i).y = (s.pa.get i).y) ∧
      s.writeWord 0x010 v = { s with pa := (s.writeWord 0x010 v).pa }) ∧
    s.writeWord 0x000 v = s ∧ s.writeWord 0x014 v = s ∧
    (∀ off, (0x018 ≤ off ∧ off < 0x400) ∨ (0x640 ≤ off ∧ off < 0x800) ∨ 0x980 ≤ off → s.writeWord off v = s) ∧
    (∀ (j : Nat), s.NW ≤ j → j < 16 →
      (∀ i : Fin 9, s.writeWord (0x400 + 0x40 * i.val + 4 * j) v = s) ∧
      (∀ i : Fin 3, s.writeWord (0x800 + 0x80 * i.val + 4 * j) v = s) ∧
      (∀ i : Fin 3, s.writeWord (0x840 + 0x80 * i.val + 4 * j) v = s))

/-- R63 (e), R65: writing word `j < NW` of an argument register while idle: that word reads back as written, every
other aligned word of the window reads as before, and nothing but that register changes. -/
def Obligations.ArgumentWordWriteThenRead : Prop :=
  ∀ (s : State) (v : Word) (j off : Nat), s.busy = false → j < s.NW →
    (∃ i : Fin 9, off = 0x400 + 0x40 * i.val + 4 * j) ∨ (∃ i : Fin 3, off = 0x800 + 0x80 * i.val + 4 * j) ∨
      (∃ i : Fin 3, off = 0x840 + 0x80 * i.val + 4 * j) →
    (s.writeWord off v).readWord off = v ∧
    (∀ off', off' % 4 = 0 → off' ≠ off → (s.writeWord off v).readWord off' = s.readWord off') ∧
    s.writeWord off v = { s with a := (s.writeWord off v).a, pa := (s.writeWord off v).pa }

/-- R64: while a command is in flight a write of class (c), (d) or (e) is dropped, and `WERR` is set; nothing else sets
`WERR`, and only the host's write of 1 to bit 3 of `STATUS` or a reset clears it. -/
def Obligations.DroppedWritesSetTheStickyWriteError : Prop :=
  (∀ (s : State) (v : Word), s.busy = true →
    s.writeWord 0x00C v = { s with werr := true } ∧ s.writeWord 0x010 v = { s with werr := true } ∧
    (∀ j, j < s.NW →
      (∀ i : Fin 9, s.writeWord (0x400 + 0x40 * i.val + 4 * j) v = { s with werr := true }) ∧
      (∀ i : Fin 3, s.writeWord (0x800 + 0x80 * i.val + 4 * j) v = { s with werr := true }) ∧
      (∀ i : Fin 3, s.writeWord (0x840 + 0x80 * i.val + 4 * j) v = { s with werr := true }))) ∧
  (∀ s t : State, step s = .next t →
    (s.werr = false → t.werr = true → s.busy = true ∧ ∃ off v es, s.script = .write off 4 v :: es) ∧
    (s.werr = true → t.werr = false →
      (∃ v es, s.script = .write 0x008 4 v :: es ∧ v.getLsbD 3 = true) ∨ (∃ es, s.script = .reset :: es)))

/-- R87 with R65: the `NW` word writes of `LDS Ai, v` on an idle core leave `Ai` holding exactly `v`, for every width
and every Scalar `v`, and change no other register. -/
def Obligations.LoadScalarLoadsTheWholeRegister : Prop :=
  ∀ (s : State) (i : Fin 9) (v : Nat) (es : List Event), s.busy = false → s.a.get i < 2 ^ s.W → v < 2 ^ s.W →
    s.script = lds s.NW (.a i) v ++ es →
    Host.Core.run Sys2Proof.core s.NW s = .next { s with a := s.a.set i.val v i.isLt, script := es }

/-- R67, R60: the port refuses an access inside the window that is not an aligned 32-bit one, and an access outside
the window is a fault of the host program; neither is given a value (the model's stops: assumption log 5). -/
def Obligations.PortStopsOnUnsupportedAccess : Prop :=
  ∀ (s : State) (off bytes : Nat) (v : Word) (es : List Event), s.script = .read off bytes :: es ∨ s.script = .write off bytes v :: es →
    (off < 4096 → off % 4 ≠ 0 ∨ bytes ≠ 4 → step s = .refused (.unsupportedAccess off bytes)) ∧
    (4096 ≤ off → step s = .fault (.outsideWindow off))

/-- No command and no supported access ever stops the machine: a state whose script holds supported moves steps to
another such state (R67, R84; spec/93_implementation_defined.md: "every command completes, every access returns"). -/
def Obligations.SupportedScriptsNeverStop : Prop :=
  ∀ s : State, s.SupportedScript → ∃ t, step s = .next t ∧ t.SupportedScript ∧ t.script = s.script.tail

/-- R26, R72, R238: between launch and completion a step that is neither the engine's move nor a reset leaves the latched word,
every argument and every result as they are; and a step of an idle core leaves every result as it is unless it is a
reset. -/
def Obligations.BusyFreezesArgumentsAndResults : Prop :=
  ∀ s t : State, step s = .next t →
    (s.busy = true → s.script ≠ [] → s.script.head? ≠ some .engine → s.script.head? ≠ some .reset →
      t.busy = true ∧ t.cmdLatch = s.cmdLatch ∧ t.a = s.a ∧ t.pa = s.pa ∧
      t.r = s.r ∧ t.pr = s.pr ∧ t.xneg = s.xneg ∧ t.yneg = s.yneg) ∧
    (s.busy = false → s.script.head? ≠ some .reset →
      t.r = s.r ∧ t.pr = s.pr ∧ t.xneg = s.xneg ∧ t.yneg = s.yneg)

/-! ### The invariants -/

/-- R45, R37: the machine right after reset meets both invariants, in the reference width (assumption log 1) and, through
the reset move, in every width. -/
def Obligations.ResetMeetsTheInvariants : Prop :=
  State.reset.Coherent ∧ State.reset.FitsWidth ∧ (∀ s : State, s.resetCore.Coherent ∧ s.resetCore.FitsWidth)

/-- R37: every step keeps the spec's state invariant, from every state that meets it. -/
def Obligations.EveryStepKeepsCoherence : Prop :=
  ∀ s t : State, s.Coherent → step s = .next t → t.Coherent

/-- R11, R31, R34: every step keeps every scalar-sized register within its `W` bits: no result of any command ever
needs truncation, the Bézout coefficients and the coordinates of points included. -/
def Obligations.EveryStepKeepsRegistersWithinWidth : Prop :=
  ∀ s t : State, s.FitsWidth → step s = .next t → t.FitsWidth

/-! ### The modular arithmetic kernel -/

/-- R101 to R104: the datapath commands return the exact residue, and fail when the modulus is below 2. -/
def Obligations.DatapathCommandsReturnTheResidue : Prop :=
  decode 0x00000010#32 = .ok .modadd ∧ decode 0x00000011#32 = .ok .modsub ∧
  decode 0x00000012#32 = .ok .modmul ∧ decode 0x00000013#32 = .ok .modmac ∧
  ∀ s : State,
    (2 ≤ s.A 2 →
      exec .modadd s = .next (s.commit { r0 := (s.A 0 + s.A 1) % s.A 2 }) ∧
      exec .modsub s = .next (s.commit { r0 := (((s.A 0 : Int) - s.A 1) % s.A 2).toNat }) ∧
      exec .modmul s = .next (s.commit { r0 := s.A 0 * s.A 1 % s.A 2 }) ∧
      exec .modmac s = .next (s.commit { r0 := (s.A 0 * s.A 1 + s.A 3) % s.A 2 })) ∧
    (s.A 2 < 2 →
      exec .modadd s = .next (s.commit { rc := .invalidParam }) ∧
      exec .modsub s = .next (s.commit { rc := .invalidParam }) ∧
      exec .modmul s = .next (s.commit { rc := .invalidParam }) ∧
      exec .modmac s = .next (s.commit { rc := .invalidParam }))

/-- R105, R107: `MODEXP` returns `mod(b^e, m)`, with `b^0 = 1`, whatever loop computes it. -/
def Obligations.ModexpReturnsThePower : Prop :=
  decode 0x00000014#32 = .ok .modexp ∧
  ∀ s : State,
    (2 ≤ s.A 2 → exec .modexp s = .next (s.commit { r0 := s.A 0 ^ s.A 1 % s.A 2 })) ∧
    (s.A 2 < 2 → exec .modexp s = .next (s.commit { rc := .invalidParam }))

/-- The iterative extended Euclidean algorithm of R108: `(old_r, r) = (a, b)`, `(old_s, s)`, `(old_t, t)`. -/
def xgcdIter : (fuel : Nat) → (oldR r : Nat) → (oldS s oldT t : Int) → Nat × Int × Int
  | 0, oldR, _, oldS, _, oldT, _ => (oldR, oldS, oldT)
  | fuel + 1, oldR, r, oldS, s, oldT, t =>
    if r = 0 then (oldR, oldS, oldT)
    else xgcdIter fuel r (oldR % r) s (oldS - (oldR / r : Nat) * s) t (oldT - (oldR / r : Nat) * t)

/-- R108: `xgcd` satisfies the classical recurrence for all operands, and the iterative form gives the same triple (which
the spec marks as derived, by checking). -/
def Obligations.XgcdIsTheClassicalRecurrence : Prop :=
  (∀ a : Nat, xgcd a 0 = (a, 1, 0)) ∧
  (∀ a b g : Nat, ∀ x1 y1 : Int, 0 < b → xgcd b (a % b) = (g, x1, y1) →
    xgcd a b = (g, y1, x1 - ((a / b : Nat) : Int) * y1)) ∧
  (∀ a b : Nat, xgcdIter (b + 1) a b 1 0 0 1 = xgcd a b)

/-- R109: the contract of `xgcd`. The magnitude bounds and the special values are clauses the spec marks as taken from
general knowledge and as derived. -/
def Obligations.XgcdMeetsItsContract : Prop :=
  (∀ a b : Nat, (xgcd a b).1 = Nat.gcd a b ∧ (a : Int) * (xgcd a b).2.1 + b * (xgcd a b).2.2 = ((xgcd a b).1 : Int) ∧
    (xgcd a b).2.1.natAbs ≤ max 1 b ∧ (xgcd a b).2.2.natAbs ≤ max 1 a) ∧
  (∀ a b : Nat, xgcd a 0 = (a, 1, 0) ∧ (0 < b → xgcd 0 b = (b, 0, 1)) ∧ (0 < a → xgcd a a = (a, 0, 1)))

/-- R110: `XGCD` always ends with `OK` and returns the triple as sign and magnitude. -/
def Obligations.XgcdCommandReturnsSignAndMagnitude : Prop :=
  decode 0x00000015#32 = .ok .xgcd ∧
  ∀ (s : State) (g : Nat) (x y : Int), xgcd (s.A 0) (s.A 1) = (g, x, y) →
    ∃ t, exec .xgcd s = .next t ∧ t.rc = .ok ∧ t.r.get 0 = g ∧
      x = (if t.xneg then -1 else 1) * (t.r.get 1 : Int) ∧ y = (if t.yneg then -1 else 1) * (t.r.get 2 : Int) ∧
      (t.xneg = true ↔ x < 0) ∧ (t.yneg = true ↔ y < 0) ∧
      t.pr = #v[⟨0, 0, false⟩, ⟨0, 0, false⟩] ∧ t.warn = false ∧ t.SameOutsideResults s

/-- R112: `MODINV` returns the one inverse in `[0, m)`, or fails with `NO_INVERSE`. -/
def Obligations.ModinvReturnsTheInverse : Prop :=
  decode 0x00000016#32 = .ok .modinv ∧
  ∀ s : State,
    (2 ≤ s.A 1 → Nat.gcd (s.A 0) (s.A 1) = 1 →
      ∃ v, exec .modinv s = .next (s.commit { r0 := v }) ∧ v < s.A 1 ∧ s.A 0 * v % s.A 1 = 1) ∧
    (2 ≤ s.A 1 → Nat.gcd (s.A 0) (s.A 1) ≠ 1 → exec .modinv s = .next (s.commit { rc := .noInverse })) ∧
    (s.A 1 < 2 → exec .modinv s = .next (s.commit { rc := .invalidParam }))

/-- R113: the two testable properties of the kernel, in terms of commands. -/
def Obligations.KernelPropertiesOfTheSource : Prop :=
  (∀ s : State, s.A 1 = 0 → 2 ≤ s.A 2 → exec .modexp s = .next (s.commit { r0 := 1 })) ∧
  (∀ s t u : State, exec .modinv s = .next t → t.rc = .ok →
    u.A 0 = s.A 0 → u.A 1 = t.r.get 0 → u.A 2 = s.A 1 → exec .modmul u = .next (u.commit { r0 := 1 }))

/-! ### RSA -/

/-- R120: key generation and its four causes of failure. -/
def Obligations.RsaKeygenReturnsModulusAndInverse : Prop :=
  decode 0x00000020#32 = .ok .rsaKeygen ∧
  ∀ (s : State) (p q e phi : Nat), p = s.A 0 → q = s.A 1 → e = s.A 2 → phi = (p - 1) * (q - 1) →
    (2 ≤ p → 2 ≤ q → p * q < 2 ^ s.W → 1 < e → e < phi → Nat.gcd e phi = 1 →
      ∃ d, exec .rsaKeygen s = .next (s.commit { r0 := p * q, r1 := d }) ∧ d < phi ∧ e * d % phi = 1) ∧
    (p < 2 ∨ q < 2 ∨ 2 ^ s.W ≤ p * q ∨ e ≤ 1 ∨ phi ≤ e ∨ Nat.gcd e phi ≠ 1 →
      exec .rsaKeygen s = .next (s.commit { rc := .invalidParam }))

/-- R121 to R124: the four exponentiations return the exact power, and fail when `n` is below 2; `RSA_VERIFY` compares
nothing. -/
def Obligations.RsaExponentiationsReturnThePower : Prop :=
  decode 0x00000021#32 = .ok .rsaEncrypt ∧ decode 0x00000022#32 = .ok .rsaDecrypt ∧
  decode 0x00000023#32 = .ok .rsaSign ∧ decode 0x00000024#32 = .ok .rsaVerify ∧
  ∀ (s : State) (i : Instr), i = .rsaEncrypt ∨ i = .rsaDecrypt ∨ i = .rsaSign ∨ i = .rsaVerify →
    (2 ≤ s.A 2 → exec i s = .next (s.commit { r0 := s.A 0 ^ s.A 1 % s.A 2 })) ∧
    (s.A 2 < 2 → exec i s = .next (s.commit { rc := .invalidParam }))

/-- The round trips of R125 for keys made from two different primes (the condition is one the spec marks as general
knowledge): decrypting an encryption and verifying a signature give the message back. -/
def Obligations.RsaRoundTrips : Prop :=
  ∀ (k k' u v v' : State) (i j : Instr), (i = .rsaEncrypt ∧ j = .rsaDecrypt) ∨ (i = .rsaSign ∧ j = .rsaVerify) →
    (k.A 0).Prime → (k.A 1).Prime → k.A 0 ≠ k.A 1 → exec .rsaKeygen k = .next k' → k'.rc = .ok →
    u.A 2 = k'.r.get 0 → v.A 2 = k'.r.get 0 → u.A 0 < k'.r.get 0 →
    (i = .rsaEncrypt → u.A 1 = k.A 2 ∧ v.A 1 = k'.r.get 1) → (i = .rsaSign → u.A 1 = k'.r.get 1 ∧ v.A 1 = k.A 2) →
    exec i u = .next v' → v.A 0 = v'.r.get 0 → exec j v = .next (v.commit { r0 := u.A 0 })

/-! ### Diffie-Hellman -/

/-- R130, R131: both commands with the soft warning, which is kept when the remote key is rejected after it. -/
def Obligations.DhCommandsReturnThePowerAndWarn : Prop :=
  decode 0x00000030#32 = .ok .dhPubkey ∧ decode 0x00000031#32 = .ok .dhShared ∧
  ∀ (s : State) (p a : Nat) (w : Bool), p = s.A 0 → a = s.A 3 → (w = true ↔ (a = 0 ∨ p < a + 2)) →
    (2 ≤ p → exec .dhPubkey s = .next (s.commit { warn := w, r0 := s.A 2 ^ a % p })) ∧
    (p < 2 → exec .dhPubkey s = .next (s.commit { rc := .invalidParam })) ∧
    (2 ≤ p → 1 ≤ s.A 4 → s.A 4 < p → exec .dhShared s = .next (s.commit { warn := w, r0 := s.A 4 ^ a % p })) ∧
    (2 ≤ p → s.A 4 = 0 ∨ p ≤ s.A 4 → exec .dhShared s = .next (s.commit { rc := .invalidParam, warn := w })) ∧
    (p < 2 → exec .dhShared s = .next (s.commit { rc := .invalidParam }))

/-- R132: both parties reach `g^(a*b) mod p` (the spec derives it from R130 and R131). -/
def Obligations.DhSharedSecretsAgree : Prop :=
  ∀ (sa sb sa' sb' ta tb : State) (p g a b : Nat), 2 ≤ p →
    sa.A 0 = p → sa.A 2 = g → sa.A 3 = a → exec .dhPubkey sa = .next sa' →
    sb.A 0 = p → sb.A 2 = g → sb.A 3 = b → exec .dhPubkey sb = .next sb' →
    ta.A 0 = p → ta.A 3 = a → ta.A 4 = sb'.r.get 0 → 1 ≤ sb'.r.get 0 →
    tb.A 0 = p → tb.A 3 = b → tb.A 4 = sa'.r.get 0 → 1 ≤ sa'.r.get 0 →
    ∃ ta' tb', exec .dhShared ta = .next ta' ∧ exec .dhShared tb = .next tb' ∧ ta'.rc = .ok ∧ tb'.rc = .ok ∧
      ta'.r.get 0 = g ^ (a * b) % p ∧ tb'.r.get 0 = g ^ (a * b) % p

/-! ### ElGamal -/

/-- R140, R141: key generation and encryption. -/
def Obligations.EgKeygenAndEncryptReturnThePowers : Prop :=
  decode 0x00000040#32 = .ok .egKeygen ∧ decode 0x00000041#32 = .ok .egEncrypt ∧
  ∀ (s : State) (p : Nat), p = s.A 0 →
    (2 ≤ p →
      exec .egKeygen s = .next (s.commit { r0 := s.A 2 ^ s.A 3 % p }) ∧
      exec .egEncrypt s = .next (s.commit { r0 := s.A 2 ^ s.A 6 % p, r1 := s.A 5 * s.A 4 ^ s.A 6 % p })) ∧
    (p < 2 →
      exec .egKeygen s = .next (s.commit { rc := .invalidParam }) ∧
      exec .egEncrypt s = .next (s.commit { rc := .invalidParam }))

/-- R142: decryption divides `c2` by the shared value `c1^x`, and fails when that has no inverse. -/
def Obligations.EgDecryptDividesByTheSharedValue : Prop :=
  decode 0x00000042#32 = .ok .egDecrypt ∧
  ∀ (s : State) (p : Nat), p = s.A 0 →
    (∀ inv, 2 ≤ p → s.A 7 ^ s.A 3 * inv % p = 1 → exec .egDecrypt s = .next (s.commit { r0 := s.A 8 * inv % p })) ∧
    (2 ≤ p → Nat.gcd (s.A 7 ^ s.A 3) p ≠ 1 → exec .egDecrypt s = .next (s.commit { rc := .invalidParam })) ∧
    (p < 2 → exec .egDecrypt s = .next (s.commit { rc := .invalidParam }))

/-- R143: signing; `s = 0` is a result, not a failure. -/
def Obligations.EgSignReturnsTheSignature : Prop :=
  decode 0x00000043#32 = .ok .egSign ∧
  ∀ (s : State) (p r : Nat), p = s.A 0 → r = s.A 2 ^ s.A 6 % p →
    (∀ kinv, 3 ≤ p → r ≠ 0 → s.A 6 * kinv % (p - 1) = 1 →
      exec .egSign s = .next (s.commit
        { r0 := r, r1 := ((((s.A 5 : Int) - s.A 3 * r) * kinv) % ((p - 1 : Nat) : Int)).toNat })) ∧
    (3 ≤ p → r = 0 ∨ Nat.gcd (s.A 6) (p - 1) ≠ 1 → exec .egSign s = .next (s.commit { rc := .degenerate })) ∧
    (p < 3 → exec .egSign s = .next (s.commit { rc := .invalidParam }))

/-- R144: "accept iff 0 < r < p and y^r·r^s mod p = g^m mod p", and nothing else is tested. -/
def Obligations.EgVerifyAcceptsIffTheEquationHolds : Prop :=
  decode 0x00000044#32 = .ok .egVerify ∧
  ∀ (s : State) (p r : Nat), p = s.A 0 → r = s.A 7 →
    (2 ≤ p → 0 < r → r < p → s.A 4 ^ r * r ^ s.A 8 % p = s.A 2 ^ s.A 5 % p →
      exec .egVerify s = .next (s.commit { r0 := 1 })) ∧
    (2 ≤ p → r = 0 ∨ p ≤ r ∨ s.A 4 ^ r * r ^ s.A 8 % p ≠ s.A 2 ^ s.A 5 % p →
      exec .egVerify s = .next (s.commit { rc := .verifyFailed })) ∧
    (p < 2 → exec .egVerify s = .next (s.commit { rc := .invalidParam }))

/-- The round trips for a prime `p` that does not divide `g` and the matching key pair: decryption gives the message
back (R146, R141, R142), and a signature that `EG_SIGN` returns verifies (R143, R144; R146 has the instance only). The
general claims are not the source's: the spec marks the first as general knowledge, and the condition on `g` is needed
for both. -/
def Obligations.EgRoundTripsForPrimeModulus : Prop :=
  ∀ (s t u : State) (p g x : Nat), p.Prime → g % p ≠ 0 → s.A 0 = p → s.A 2 = g → u.A 0 = p →
    (s.A 4 = g ^ x % p → s.A 5 < p → exec .egEncrypt s = .next t →
      u.A 3 = x → u.A 7 = t.r.get 0 → u.A 8 = t.r.get 1 → exec .egDecrypt u = .next (u.commit { r0 := s.A 5 })) ∧
    (s.A 3 = x → exec .egSign s = .next t → t.rc = .ok →
      u.A 2 = g → u.A 4 = g ^ x % p → u.A 5 = s.A 5 → u.A 7 = t.r.get 0 → u.A 8 = t.r.get 1 →
      exec .egVerify u = .next (u.commit { r0 := 1 }))

/-! ### DSA -/

/-- R150: key generation tests the range of `x`. -/
def Obligations.DsaKeygenReturnsThePower : Prop :=
  decode 0x00000050#32 = .ok .dsaKeygen ∧
  ∀ s : State,
    (2 ≤ s.A 0 → 0 < s.A 3 → s.A 3 < s.A 1 → exec .dsaKeygen s = .next (s.commit { r0 := s.A 2 ^ s.A 3 % s.A 0 })) ∧
    (s.A 0 < 2 ∨ s.A 3 = 0 ∨ s.A 1 ≤ s.A 3 → exec .dsaKeygen s = .next (s.commit { rc := .invalidParam }))

/-- R151: signing and its degenerate outcomes. -/
def Obligations.DsaSignReturnsTheSignature : Prop :=
  decode 0x00000051#32 = .ok .dsaSign ∧
  ∀ (s : State) (q r : Nat), q = s.A 1 → r = s.A 2 ^ s.A 6 % s.A 0 % q →
    (∀ kinv, 2 ≤ s.A 0 → 2 ≤ q → r ≠ 0 → s.A 6 * kinv % q = 1 → kinv * (s.A 5 + s.A 3 * r) % q ≠ 0 →
      exec .dsaSign s = .next (s.commit { r0 := r, r1 := kinv * (s.A 5 + s.A 3 * r) % q })) ∧
    (∀ kinv, 2 ≤ s.A 0 → 2 ≤ q → s.A 6 * kinv % q = 1 → kinv * (s.A 5 + s.A 3 * r) % q = 0 →
      exec .dsaSign s = .next (s.commit { rc := .degenerate })) ∧
    (2 ≤ s.A 0 → 2 ≤ q → r = 0 ∨ Nat.gcd (s.A 6) q ≠ 1 → exec .dsaSign s = .next (s.commit { rc := .degenerate })) ∧
    (s.A 0 < 2 ∨ q < 2 → exec .dsaSign s = .next (s.commit { rc := .invalidParam }))

/-- R152: verification accepts exactly when both components are in range, `s` has an inverse `w`, and the recomputed
value is `r`. -/
def Obligations.DsaVerifyAcceptsIffTheValueMatches : Prop :=
  decode 0x00000052#32 = .ok .dsaVerify ∧
  ∀ (s : State) (p q g y h r z : Nat), p = s.A 0 → q = s.A 1 → g = s.A 2 → y = s.A 4 → h = s.A 5 → r = s.A 7 → z = s.A 8 →
    (∀ w, 2 ≤ p → 2 ≤ q → 0 < r → r < q → 0 < z → z < q → z * w % q = 1 →
      (g ^ (h * w % q) * y ^ (r * w % q) % p % q = r → exec .dsaVerify s = .next (s.commit { r0 := 1 })) ∧
      (g ^ (h * w % q) * y ^ (r * w % q) % p % q ≠ r → exec .dsaVerify s = .next (s.commit { rc := .verifyFailed }))) ∧
    (2 ≤ p → 2 ≤ q → r = 0 ∨ q ≤ r ∨ z = 0 ∨ q ≤ z ∨ Nat.gcd z q ≠ 1 →
      exec .dsaVerify s = .next (s.commit { rc := .verifyFailed })) ∧
    (p < 2 ∨ q < 2 → exec .dsaVerify s = .next (s.commit { rc := .invalidParam }))

/-- The round trip of R153 in general (the source states the instance only, R151 and R152 give the rest): with `q` prime, `g` of order dividing `q`
modulo `p` and the matching public key, a signature that `DSA_SIGN` returns verifies. -/
def Obligations.DsaSignaturesVerify : Prop :=
  ∀ s t u : State, (s.A 1).Prime → s.A 2 ^ s.A 1 % s.A 0 = 1 → exec .dsaSign s = .next t → t.rc = .ok →
    u.A 0 = s.A 0 → u.A 1 = s.A 1 → u.A 2 = s.A 2 → u.A 4 = s.A 2 ^ s.A 3 % s.A 0 → u.A 5 = s.A 5 →
    u.A 7 = t.r.get 0 → u.A 8 = t.r.get 1 → exec .dsaVerify u = .next (u.commit { r0 := 1 })

/-- R153, R185 (both derived there): a pair returned by `DSA_SIGN` or `ECDSA_SIGN` with `OK` has both components
strictly inside `(0, group order)`. -/
def Obligations.ReturnedSignaturesAreInRange : Prop :=
  ∀ s t : State,
    (exec .dsaSign s = .next t → t.rc = .ok →
      0 < t.r.get 0 ∧ t.r.get 0 < s.A 1 ∧ 0 < t.r.get 1 ∧ t.r.get 1 < s.A 1) ∧
    (exec .ecdsaSign s = .next t → t.rc = .ok →
      0 < t.r.get 0 ∧ t.r.get 0 < s.A 3 ∧ 0 < t.r.get 1 ∧ t.r.get 1 < s.A 3)

/-! ### Elliptic curves -/

/-- R161, R162: membership is a predicate; "no" is `R0 = 0` with `OK`. -/
def Obligations.EcOncurveAnswersTheEquation : Prop :=
  decode 0x00000060#32 = .ok .ecOncurve ∧
  ∀ (s : State) (p : Nat), p = s.A 0 →
    (2 ≤ p → s.P 0 = .infinity → exec .ecOncurve s = .next (s.commit { r0 := 1 })) ∧
    (∀ x y, 2 ≤ p → s.P 0 = .affine x y →
      exec .ecOncurve s = .next (s.commit { r0 := if y * y % p = (x * x * x + s.A 1 * x + s.A 2) % p then 1 else 0 })) ∧
    (p < 2 → exec .ecOncurve s = .next (s.commit { rc := .invalidParam }))

/-- R163, R164, R165: point addition case by case, the slope's denominator given an inverse or shown to have none. The
formulas of the sum's coordinates (R164) are a passage the spec marks as general knowledge (assumption log 8). -/
def Obligations.EcPaddFollowsTheCaseList : Prop :=
  decode 0x00000061#32 = .ok .ecPadd ∧
  ∀ (s : State) (p : Nat), p = s.A 0 →
    (2 ≤ p → s.P 0 = .infinity → exec .ecPadd s = .next (s.commit { pr0 := some (s.P 1) })) ∧
    (2 ≤ p → s.P 1 = .infinity → exec .ecPadd s = .next (s.commit { pr0 := some (s.P 0) })) ∧
    (∀ x1 y1 x2 y2 : Nat, 2 ≤ p → s.P 0 = .affine x1 y1 → s.P 1 = .affine x2 y2 →
      (x1 = x2 → (y1 + y2) % p = 0 → exec .ecPadd s = .next (s.commit { pr0 := some .infinity })) ∧
      (∀ num den : Int, ¬(x1 = x2 ∧ (y1 + y2) % p = 0) →
        (x1 = x2 ∧ y1 = y2 → num = 3 * (x1 : Int) * x1 + s.A 1 ∧ den = 2 * (y1 : Int)) →
        (¬(x1 = x2 ∧ y1 = y2) → num = (y2 : Int) - y1 ∧ den = (x2 : Int) - x1) →
        (Int.gcd den p ≠ 1 → exec .ecPadd s = .next (s.commit { pr0 := some .infinity })) ∧
        (∀ inv lam x3 : Int, den * inv % p = 1 → lam = num * inv % p → x3 = (lam * lam - x1 - x2) % p →
          exec .ecPadd s = .next (s.commit
            { pr0 := some (.affine x3.toNat ((lam * ((x1 : Int) - x3) - y1) % p).toNat) })))) ∧
    (p < 2 → exec .ecPadd s = .next (s.commit { rc := .invalidParam }))

/-- R166, R167: negation reflects `y`, keeps `x` unreduced, and keeps the identity. -/
def Obligations.EcPnegReflectsTheOrdinate : Prop :=
  decode 0x00000062#32 = .ok .ecPneg ∧
  ∀ (s : State) (p : Nat), p = s.A 0 →
    (2 ≤ p → s.P 0 = .infinity → exec .ecPneg s = .next (s.commit { pr0 := some .infinity })) ∧
    (∀ x y, 2 ≤ p → s.P 0 = .affine x y →
      exec .ecPneg s = .next (s.commit { pr0 := some (.affine x (((p : Int) - y) % p).toNat) })) ∧
    (p < 2 → exec .ecPneg s = .next (s.commit { rc := .invalidParam }))

/-- `P` doubled `n` times with `point_add`. -/
def doubled (P : Point) (p a : Nat) : Nat → Point
  | 0 => P
  | n + 1 => pointAdd (doubled P p a n) (doubled P p a n) p a

/-- The sum, from bit 0 upward and starting from the identity, of `2^n P` over the set bits `n` of `k` below `bits`. -/
def sumOfSetBits (k : Nat) (P : Point) (p a : Nat) : Nat → Point
  | 0 => .infinity
  | n + 1 =>
    if k.testBit n then pointAdd (sumOfSetBits k P p a n) (doubled P p a n) p a else sumOfSetBits k P p a n

/-- R168, R169: `EC_PMUL` is double-and-add over the bits of `k` from the least significant end, for every width that
holds `k`; and the special values `0`, `O` and `1` of R168, for every point and every modulus. -/
def Obligations.EcPmulAddsTheDoublingsOfTheSetBits : Prop :=
  decode 0x00000063#32 = .ok .ecPmul ∧
  (∀ s : State,
    (∀ bits, 2 ≤ s.A 0 → s.A 6 < 2 ^ bits →
      exec .ecPmul s = .next (s.commit { pr0 := some (sumOfSetBits (s.A 6) (s.P 0) (s.A 0) (s.A 1) bits) })) ∧
    (s.A 0 < 2 → exec .ecPmul s = .next (s.commit { rc := .invalidParam }))) ∧
  (∀ (k p a : Nat) (P : Point),
    scalarMult 0 P p a = .infinity ∧ scalarMult k .infinity p a = .infinity ∧ scalarMult 1 P p a = P)

/-- R170 (which derives their extent): the two group laws of the source: the identity is neutral, and `P + (-P)` is the
identity for `y < p`. -/
def Obligations.GroupLawsOfTheSource : Prop :=
  ∀ s : State, 2 ≤ s.A 0 →
    (s.P 1 = .infinity → exec .ecPadd s = .next (s.commit { pr0 := some (s.P 0) })) ∧
    (s.P 0 = .infinity → exec .ecPadd s = .next (s.commit { pr0 := some (s.P 1) })) ∧
    (∀ t u, (∀ x y, s.P 0 = .affine x y → y < s.A 0) → exec .ecPneg s = .next t →
      u.A 0 = s.A 0 → u.P 0 = s.P 0 → u.P 1 = (t.pr.get 0).toPoint →
      exec .ecPadd u = .next (u.commit { pr0 := some .infinity }))

/-- R180: key generation validates the base point and only that. -/
def Obligations.EcKeygenValidatesTheBasePoint : Prop :=
  decode 0x00000064#32 = .ok .ecKeygen ∧
  ∀ (s : State) (p : Nat), p = s.A 0 →
    (2 ≤ p → s.P 0 = .infinity → exec .ecKeygen s = .next (s.commit { pr0 := some .infinity })) ∧
    (∀ x y, 2 ≤ p → s.P 0 = .affine x y → y * y % p = (x * x * x + s.A 1 * x + s.A 2) % p →
      exec .ecKeygen s = .next (s.commit { pr0 := some (scalarMult (s.A 4) (.affine x y) p (s.A 1)) })) ∧
    (∀ x y, 2 ≤ p → s.P 0 = .affine x y → y * y % p ≠ (x * x * x + s.A 1 * x + s.A 2) % p →
      exec .ecKeygen s = .next (s.commit { rc := .invalidParam })) ∧
    (p < 2 → exec .ecKeygen s = .next (s.commit { rc := .invalidParam }))

/-- R181: ECDSA signing and its four degenerate outcomes. -/
def Obligations.EcdsaSignReturnsTheSignature : Prop :=
  decode 0x00000065#32 = .ok .ecdsaSign ∧
  ∀ (s : State) (n k : Nat) (R : Point), n = s.A 3 → k = s.A 6 → R = scalarMult k (s.P 0) (s.A 0) (s.A 1) →
    (∀ x y kinv r, 2 ≤ s.A 0 → 2 ≤ n → R = .affine x y → r = x % n → r ≠ 0 → k * kinv % n = 1 →
      (kinv * (s.A 5 + r * s.A 4) % n ≠ 0 →
        exec .ecdsaSign s = .next (s.commit { r0 := r, r1 := kinv * (s.A 5 + r * s.A 4) % n })) ∧
      (kinv * (s.A 5 + r * s.A 4) % n = 0 → exec .ecdsaSign s = .next (s.commit { rc := .degenerate }))) ∧
    (2 ≤ s.A 0 → 2 ≤ n → R = .infinity ∨ (∃ x y, R = .affine x y ∧ x % n = 0) ∨ Nat.gcd k n ≠ 1 →
      exec .ecdsaSign s = .next (s.commit { rc := .degenerate })) ∧
    (s.A 0 < 2 ∨ n < 2 → exec .ecdsaSign s = .next (s.commit { rc := .invalidParam }))

/-- R182: ECDSA verification with the source's literal zero tests and no upper bound. -/
def Obligations.EcdsaVerifyAcceptsIffTheAbscissaMatches : Prop :=
  decode 0x00000066#32 = .ok .ecdsaVerify ∧
  ∀ (s : State) (p a n h r z : Nat), p = s.A 0 → a = s.A 1 → n = s.A 3 → h = s.A 5 → r = s.A 7 → z = s.A 8 →
    (∀ w P, 2 ≤ p → 2 ≤ n → r ≠ 0 → z * w % n = 1 →
      P = pointAdd (scalarMult (h * w % n) (s.P 0) p a) (scalarMult (r * w % n) (s.P 1) p a) p a →
      (∀ x y, P = .affine x y → x % n = r → exec .ecdsaVerify s = .next (s.commit { r0 := 1 })) ∧
      (∀ x y, P = .affine x y → x % n ≠ r → exec .ecdsaVerify s = .next (s.commit { rc := .verifyFailed })) ∧
      (P = .infinity → exec .ecdsaVerify s = .next (s.commit { rc := .verifyFailed }))) ∧
    (2 ≤ p → 2 ≤ n → r = 0 ∨ z = 0 ∨ Nat.gcd z n ≠ 1 → exec .ecdsaVerify s = .next (s.commit { rc := .verifyFailed })) ∧
    (p < 2 ∨ n < 2 → exec .ecdsaVerify s = .next (s.commit { rc := .invalidParam }))

/-- R183, R184: EC-ElGamal in terms of the point functions; `p < 2` is the only failure. -/
def Obligations.EcegCommandsCombineThePoints : Prop :=
  decode 0x00000067#32 = .ok .ecegEncrypt ∧ decode 0x00000068#32 = .ok .ecegDecrypt ∧
  ∀ (s : State) (p a : Nat), p = s.A 0 → a = s.A 1 →
    (2 ≤ p →
      exec .ecegEncrypt s = .next (s.commit
        { pr0 := some (scalarMult (s.A 6) (s.P 0) p a),
          pr1 := some (pointAdd (s.P 2) (scalarMult (s.A 6) (s.P 1) p a) p a) }) ∧
      exec .ecegDecrypt s = .next (s.commit
        { pr0 := some (pointAdd (s.P 1) (pointNeg (scalarMult (s.A 4) (s.P 0) p a) p) p a) })) ∧
    (p < 2 →
      exec .ecegEncrypt s = .next (s.commit { rc := .invalidParam }) ∧
      exec .ecegDecrypt s = .next (s.commit { rc := .invalidParam }))
end

