-- ==== Sys2Proof/Laws/Arith.lean ====
section
/-! SUPPORT. The small lemmas of the residue and the datapath primitives (spec/00_scope.md R9, R10) and the unfolding
equations of the two loops and of the Euclidean recurrence. -/

namespace Sys2Proof.Machine

/-- `mod(v, m)` as an integer is the Euclidean remainder (spec/00_scope.md R9). -/
theorem modZ_cast (v : Int) (m : Nat) (h : 0 < m) : ((modZ v m : Nat) : Int) = v % (m : Int) :=
  Int.toNat_of_nonneg (Int.emod_nonneg v (by omega))

/-- `mod(v, m)` is `v - m * floor(v / m)` (spec/00_scope.md R9). -/
theorem modZ_floor (v : Int) (m : Nat) (h : 0 < m) : ((modZ v m : Nat) : Int) = v - m * (v / m) := by
  rw [modZ_cast v m h, Int.emod_def]

theorem modZ_lt (v : Int) (m : Nat) (h : 0 < m) : modZ v m < m := by
  have h1 := modZ_cast v m h
  have h2 := Int.emod_lt_of_pos v (show (0 : Int) < m by omega)
  omega

@[simp] theorem modZ_natCast (n m : Nat) : modZ (n : Int) m = n % m := by
  unfold modZ; norm_cast

theorem addmod_eq (a b m : Nat) : addmod a b m = (a + b) % m := by
  unfold addmod; rw [← Nat.cast_add, modZ_natCast]

theorem mulmod_eq (a b m : Nat) : mulmod a b m = a * b % m := by
  unfold mulmod; rw [← Nat.cast_mul, modZ_natCast]

theorem macmod_eq (a b c m : Nat) : macmod a b c m = (a * b + c) % m := by
  unfold macmod; rw [← Nat.cast_mul, ← Nat.cast_add, modZ_natCast]

theorem submod_lt (a b m : Nat) (h : 0 < m) : submod a b m < m := modZ_lt _ m h

theorem mulmod_lt (a b m : Nat) (h : 0 < m) : mulmod a b m < m := modZ_lt _ m h

theorem modexpLoop_zero (m fuel r s : Nat) : modexpLoop m fuel r s 0 = r := by
  cases fuel <;> simp [modexpLoop]

theorem modexpLoop_succ (m fuel r s t : Nat) (h : t ≠ 0) :
    modexpLoop m (fuel + 1) r s t =
      modexpLoop m fuel (if t % 2 = 1 then mulmod r s m else r) (mulmod s s m) (t / 2) := by
  simp [modexpLoop, h]

theorem xgcdRec_zero (fuel a : Nat) : xgcdRec fuel a 0 = (a, 1, 0) := by
  cases fuel <;> simp [xgcdRec]

theorem xgcdRec_succ (fuel a b : Nat) (h : b ≠ 0) :
    xgcdRec (fuel + 1) a b =
      ((xgcdRec fuel b (a % b)).1, (xgcdRec fuel b (a % b)).2.2,
        (xgcdRec fuel b (a % b)).2.1 - ((a / b : Nat) : Int) * (xgcdRec fuel b (a % b)).2.2) := by
  simp [xgcdRec, h]

theorem modInverse_eq (a m : Nat) : modInverse a m = if (xgcd a m).1 ≠ 1 then 0 else modZ (xgcd a m).2.1 m := rfl

theorem scalarMultLoop_zero (p a fuel : Nat) (acc add : Point) : scalarMultLoop p a fuel acc add 0 = acc := by
  cases fuel <;> simp [scalarMultLoop]

theorem scalarMultLoop_succ (p a fuel : Nat) (acc add : Point) (e : Nat) (h : e ≠ 0) :
    scalarMultLoop p a (fuel + 1) acc add e =
      scalarMultLoop p a fuel (if e % 2 = 1 then pointAdd acc add p a else acc) (pointAdd add add p a) (e / 2) := by
  simp [scalarMultLoop, h]

theorem pointAdd_affine (x1 y1 x2 y2 p a : Nat) :
    pointAdd (.affine x1 y1) (.affine x2 y2) p a =
      if x1 = x2 ∧ modZ ((y1 : Int) + y2) p = 0 then .infinity
      else if x1 = x2 ∧ y1 = y2 then
        pointFromFraction (modZ (3 * (x1 : Int) * x1 + a) p) (modZ (2 * (y1 : Int)) p) x1 y1 x2 p
      else pointFromFraction (modZ ((y2 : Int) - y1) p) (modZ ((x2 : Int) - x1) p) x1 y1 x2 p := rfl

end Sys2Proof.Machine
end

