-- ==== Sys2Proof/Laws/Core.lean ====
section
/-! SUPPORT. Running the machine of Host/Core.lean step by step. -/

namespace Sys2Proof.Machine

theorem host_run_succ (M : Host.Core) (k : Nat) (s t : M.State) (h : M.step s = .next t) :
    Host.Core.run M (k + 1) s = Host.Core.run M k t := by
  rw [Host.Core.run, h]

theorem core_run_zero (s : State) : Host.Core.run Sys2Proof.core 0 s = .next s := rfl

/-- One step of a run that answers a next state. -/
theorem core_run_succ (k : Nat) (s t : State) (h : step s = .next t) :
    Host.Core.run Sys2Proof.core (k + 1) s = Host.Core.run Sys2Proof.core k t :=
  host_run_succ Sys2Proof.core k s t h

end Sys2Proof.Machine
end

