-- ==== Sys2Proof/Laws/State.lean ====
section
/-! SUPPORT. One lemma per field per update of the state, all by rfl, and the accessors over the updates: later proofs
need not unfold a record update. -/

namespace Sys2Proof.Machine

/-! ### launch -/

@[simp] theorem State.launch_nwIndex (s : State) (w : Word) : (s.launch w).nwIndex = s.nwIndex := rfl
@[simp] theorem State.launch_ie (s : State) (w : Word) : (s.launch w).ie = s.ie := rfl
@[simp] theorem State.launch_busy (s : State) (w : Word) : (s.launch w).busy = true := rfl
@[simp] theorem State.launch_done (s : State) (w : Word) : (s.launch w).done = false := rfl
@[simp] theorem State.launch_warn (s : State) (w : Word) : (s.launch w).warn = false := rfl
@[simp] theorem State.launch_werr (s : State) (w : Word) : (s.launch w).werr = s.werr := rfl
@[simp] theorem State.launch_rc (s : State) (w : Word) : (s.launch w).rc = .ok := rfl
@[simp] theorem State.launch_cmdLatch (s : State) (w : Word) : (s.launch w).cmdLatch = w := rfl
@[simp] theorem State.launch_a (s : State) (w : Word) : (s.launch w).a = s.a := rfl
@[simp] theorem State.launch_pa (s : State) (w : Word) : (s.launch w).pa = s.pa := rfl
@[simp] theorem State.launch_r (s : State) (w : Word) : (s.launch w).r = s.r := rfl
@[simp] theorem State.launch_pr (s : State) (w : Word) : (s.launch w).pr = s.pr := rfl
@[simp] theorem State.launch_xneg (s : State) (w : Word) : (s.launch w).xneg = s.xneg := rfl
@[simp] theorem State.launch_yneg (s : State) (w : Word) : (s.launch w).yneg = s.yneg := rfl
@[simp] theorem State.launch_script (s : State) (w : Word) : (s.launch w).script = s.script := rfl
@[simp] theorem State.launch_readLog (s : State) (w : Word) : (s.launch w).readLog = s.readLog := rfl

@[simp] theorem State.launch_W (s : State) (w : Word) : (s.launch w).W = s.W := rfl
@[simp] theorem State.launch_A (s : State) (w : Word) (k : Fin 9) : (s.launch w).A k = s.A k := rfl
@[simp] theorem State.launch_P (s : State) (w : Word) (k : Fin 3) : (s.launch w).P k = s.P k := rfl

/-! ### result vectors -/

@[simp] theorem vector2_get_zero {α : Type} (x y : α) : (#v[x, y]).get 0 = x := rfl
@[simp] theorem vector2_get_one {α : Type} (x y : α) : (#v[x, y]).get 1 = y := rfl
@[simp] theorem vector3_get_zero {α : Type} (x y z : α) : (#v[x, y, z]).get 0 = x := rfl
@[simp] theorem vector3_get_one {α : Type} (x y z : α) : (#v[x, y, z]).get 1 = y := rfl
@[simp] theorem vector3_get_two {α : Type} (x y z : α) : (#v[x, y, z]).get 2 = z := rfl

/-! ### commit -/

@[simp] theorem State.commit_nwIndex (s : State) (o : CmdOutcome) : (s.commit o).nwIndex = s.nwIndex := rfl
@[simp] theorem State.commit_ie (s : State) (o : CmdOutcome) : (s.commit o).ie = s.ie := rfl
@[simp] theorem State.commit_busy (s : State) (o : CmdOutcome) : (s.commit o).busy = false := rfl
@[simp] theorem State.commit_done (s : State) (o : CmdOutcome) : (s.commit o).done = true := rfl
@[simp] theorem State.commit_warn (s : State) (o : CmdOutcome) : (s.commit o).warn = o.warn := rfl
@[simp] theorem State.commit_werr (s : State) (o : CmdOutcome) : (s.commit o).werr = s.werr := rfl
@[simp] theorem State.commit_rc (s : State) (o : CmdOutcome) : (s.commit o).rc = o.rc := rfl
@[simp] theorem State.commit_cmdLatch (s : State) (o : CmdOutcome) : (s.commit o).cmdLatch = s.cmdLatch := rfl
@[simp] theorem State.commit_a (s : State) (o : CmdOutcome) : (s.commit o).a = s.a := rfl
@[simp] theorem State.commit_pa (s : State) (o : CmdOutcome) : (s.commit o).pa = s.pa := rfl
@[simp] theorem State.commit_r (s : State) (o : CmdOutcome) : (s.commit o).r = #v[o.r0, o.r1, o.r2] := rfl
@[simp] theorem State.commit_pr (s : State) (o : CmdOutcome) : (s.commit o).pr = #v[pointResult o.pr0, pointResult o.pr1] := rfl
@[simp] theorem State.commit_xneg (s : State) (o : CmdOutcome) : (s.commit o).xneg = o.xneg := rfl
@[simp] theorem State.commit_yneg (s : State) (o : CmdOutcome) : (s.commit o).yneg = o.yneg := rfl
@[simp] theorem State.commit_script (s : State) (o : CmdOutcome) : (s.commit o).script = s.script := rfl
@[simp] theorem State.commit_readLog (s : State) (o : CmdOutcome) : (s.commit o).readLog = s.readLog := rfl

@[simp] theorem State.commit_W (s : State) (o : CmdOutcome) : (s.commit o).W = s.W := rfl
@[simp] theorem State.commit_A (s : State) (o : CmdOutcome) (k : Fin 9) : (s.commit o).A k = s.A k := rfl
@[simp] theorem State.commit_P (s : State) (o : CmdOutcome) (k : Fin 3) : (s.commit o).P k = s.P k := rfl

/-! ### resetCore -/

@[simp] theorem State.resetCore_nwIndex (s : State) : (s.resetCore).nwIndex = s.nwIndex := rfl
@[simp] theorem State.resetCore_ie (s : State) : (s.resetCore).ie = State.reset.ie := rfl
@[simp] theorem State.resetCore_busy (s : State) : (s.resetCore).busy = State.reset.busy := rfl
@[simp] theorem State.resetCore_done (s : State) : (s.resetCore).done = State.reset.done := rfl
@[simp] theorem State.resetCore_warn (s : State) : (s.resetCore).warn = State.reset.warn := rfl
@[simp] theorem State.resetCore_werr (s : State) : (s.resetCore).werr = State.reset.werr := rfl
@[simp] theorem State.resetCore_rc (s : State) : (s.resetCore).rc = State.reset.rc := rfl
@[simp] theorem State.resetCore_cmdLatch (s : State) : (s.resetCore).cmdLatch = State.reset.cmdLatch := rfl
@[simp] theorem State.resetCore_a (s : State) : (s.resetCore).a = State.reset.a := rfl
@[simp] theorem State.resetCore_pa (s : State) : (s.resetCore).pa = State.reset.pa := rfl
@[simp] theorem State.resetCore_r (s : State) : (s.resetCore).r = State.reset.r := rfl
@[simp] theorem State.resetCore_pr (s : State) : (s.resetCore).pr = State.reset.pr := rfl
@[simp] theorem State.resetCore_xneg (s : State) : (s.resetCore).xneg = State.reset.xneg := rfl
@[simp] theorem State.resetCore_yneg (s : State) : (s.resetCore).yneg = State.reset.yneg := rfl
@[simp] theorem State.resetCore_script (s : State) : (s.resetCore).script = s.script := rfl
@[simp] theorem State.resetCore_readLog (s : State) : (s.resetCore).readLog = s.readLog := rfl

@[simp] theorem State.resetCore_W (s : State) : (s.resetCore).W = s.W := rfl

/-! ### writeCtrl -/

@[simp] theorem State.writeCtrl_nwIndex (s : State) (v : Word) : (s.writeCtrl v).nwIndex = s.nwIndex := rfl
@[simp] theorem State.writeCtrl_ie (s : State) (v : Word) : (s.writeCtrl v).ie = v.getLsbD 0 := rfl
@[simp] theorem State.writeCtrl_busy (s : State) (v : Word) : (s.writeCtrl v).busy = s.busy := rfl
@[simp] theorem State.writeCtrl_done (s : State) (v : Word) : (s.writeCtrl v).done = s.done := rfl
@[simp] theorem State.writeCtrl_warn (s : State) (v : Word) : (s.writeCtrl v).warn = s.warn := rfl
@[simp] theorem State.writeCtrl_werr (s : State) (v : Word) : (s.writeCtrl v).werr = s.werr := rfl
@[simp] theorem State.writeCtrl_rc (s : State) (v : Word) : (s.writeCtrl v).rc = s.rc := rfl
@[simp] theorem State.writeCtrl_cmdLatch (s : State) (v : Word) : (s.writeCtrl v).cmdLatch = s.cmdLatch := rfl
@[simp] theorem State.writeCtrl_a (s : State) (v : Word) : (s.writeCtrl v).a = s.a := rfl
@[simp] theorem State.writeCtrl_pa (s : State) (v : Word) : (s.writeCtrl v).pa = s.pa := rfl
@[simp] theorem State.writeCtrl_r (s : State) (v : Word) : (s.writeCtrl v).r = s.r := rfl
@[simp] theorem State.writeCtrl_pr (s : State) (v : Word) : (s.writeCtrl v).pr = s.pr := rfl
@[simp] theorem State.writeCtrl_xneg (s : State) (v : Word) : (s.writeCtrl v).xneg = s.xneg := rfl
@[simp] theorem State.writeCtrl_yneg (s : State) (v : Word) : (s.writeCtrl v).yneg = s.yneg := rfl
@[simp] theorem State.writeCtrl_script (s : State) (v : Word) : (s.writeCtrl v).script = s.script := rfl
@[simp] theorem State.writeCtrl_readLog (s : State) (v : Word) : (s.writeCtrl v).readLog = s.readLog := rfl

@[simp] theorem State.writeCtrl_W (s : State) (v : Word) : (s.writeCtrl v).W = s.W := rfl
@[simp] theorem State.writeCtrl_A (s : State) (v : Word) (k : Fin 9) : (s.writeCtrl v).A k = s.A k := rfl
@[simp] theorem State.writeCtrl_P (s : State) (v : Word) (k : Fin 3) : (s.writeCtrl v).P k = s.P k := rfl

/-! ### writeStatus -/

@[simp] theorem State.writeStatus_nwIndex (s : State) (v : Word) : (s.writeStatus v).nwIndex = s.nwIndex := rfl
@[simp] theorem State.writeStatus_ie (s : State) (v : Word) : (s.writeStatus v).ie = s.ie := rfl
@[simp] theorem State.writeStatus_busy (s : State) (v : Word) : (s.writeStatus v).busy = s.busy := rfl
@[simp] theorem State.writeStatus_done (s : State) (v : Word) : (s.writeStatus v).done = (s.done && !v.getLsbD 1) := rfl
@[simp] theorem State.writeStatus_warn (s : State) (v : Word) : (s.writeStatus v).warn = s.warn := rfl
@[simp] theorem State.writeStatus_werr (s : State) (v : Word) : (s.writeStatus v).werr = (s.werr && !v.getLsbD 3) := rfl
@[simp] theorem State.writeStatus_rc (s : State) (v : Word) : (s.writeStatus v).rc = s.rc := rfl
@[simp] theorem State.writeStatus_cmdLatch (s : State) (v : Word) : (s.writeStatus v).cmdLatch = s.cmdLatch := rfl
@[simp] theorem State.writeStatus_a (s : State) (v : Word) : (s.writeStatus v).a = s.a := rfl
@[simp] theorem State.writeStatus_pa (s : State) (v : Word) : (s.writeStatus v).pa = s.pa := rfl
@[simp] theorem State.writeStatus_r (s : State) (v : Word) : (s.writeStatus v).r = s.r := rfl
@[simp] theorem State.writeStatus_pr (s : State) (v : Word) : (s.writeStatus v).pr = s.pr := rfl
@[simp] theorem State.writeStatus_xneg (s : State) (v : Word) : (s.writeStatus v).xneg = s.xneg := rfl
@[simp] theorem State.writeStatus_yneg (s : State) (v : Word) : (s.writeStatus v).yneg = s.yneg := rfl
@[simp] theorem State.writeStatus_script (s : State) (v : Word) : (s.writeStatus v).script = s.script := rfl
@[simp] theorem State.writeStatus_readLog (s : State) (v : Word) : (s.writeStatus v).readLog = s.readLog := rfl

@[simp] theorem State.writeStatus_W (s : State) (v : Word) : (s.writeStatus v).W = s.W := rfl
@[simp] theorem State.writeStatus_A (s : State) (v : Word) (k : Fin 9) : (s.writeStatus v).A k = s.A k := rfl
@[simp] theorem State.writeStatus_P (s : State) (v : Word) (k : Fin 3) : (s.writeStatus v).P k = s.P k := rfl

/-! ### writePainf -/

@[simp] theorem State.writePainf_nwIndex (s : State) (v : Word) : (s.writePainf v).nwIndex = s.nwIndex := rfl
@[simp] theorem State.writePainf_ie (s : State) (v : Word) : (s.writePainf v).ie = s.ie := rfl
@[simp] theorem State.writePainf_busy (s : State) (v : Word) : (s.writePainf v).busy = s.busy := rfl
@[simp] theorem State.writePainf_done (s : State) (v : Word) : (s.writePainf v).done = s.done := rfl
@[simp] theorem State.writePainf_warn (s : State) (v : Word) : (s.writePainf v).warn = s.warn := rfl
@[simp] theorem State.writePainf_werr (s : State) (v : Word) : (s.writePainf v).werr = s.werr := rfl
@[simp] theorem State.writePainf_rc (s : State) (v : Word) : (s.writePainf v).rc = s.rc := rfl
@[simp] theorem State.writePainf_cmdLatch (s : State) (v : Word) : (s.writePainf v).cmdLatch = s.cmdLatch := rfl
@[simp] theorem State.writePainf_a (s : State) (v : Word) : (s.writePainf v).a = s.a := rfl
@[simp] theorem State.writePainf_r (s : State) (v : Word) : (s.writePainf v).r = s.r := rfl
@[simp] theorem State.writePainf_pr (s : State) (v : Word) : (s.writePainf v).pr = s.pr := rfl
@[simp] theorem State.writePainf_xneg (s : State) (v : Word) : (s.writePainf v).xneg = s.xneg := rfl
@[simp] theorem State.writePainf_yneg (s : State) (v : Word) : (s.writePainf v).yneg = s.yneg := rfl
@[simp] theorem State.writePainf_script (s : State) (v : Word) : (s.writePainf v).script = s.script := rfl
@[simp] theorem State.writePainf_readLog (s : State) (v : Word) : (s.writePainf v).readLog = s.readLog := rfl

@[simp] theorem State.writePainf_W (s : State) (v : Word) : (s.writePainf v).W = s.W := rfl
@[simp] theorem State.writePainf_A (s : State) (v : Word) (k : Fin 9) : (s.writePainf v).A k = s.A k := rfl

/-! ### writeArg -/

@[simp] theorem State.writeArg_nwIndex (s : State) (i : Fin 9) (j : Nat) (v : Word) : (s.writeArg i j v).nwIndex = s.nwIndex := rfl
@[simp] theorem State.writeArg_ie (s : State) (i : Fin 9) (j : Nat) (v : Word) : (s.writeArg i j v).ie = s.ie := rfl
@[simp] theorem State.writeArg_busy (s : State) (i : Fin 9) (j : Nat) (v : Word) : (s.writeArg i j v).busy = s.busy := rfl
@[simp] theorem State.writeArg_done (s : State) (i : Fin 9) (j : Nat) (v : Word) : (s.writeArg i j v).done = s.done := rfl
@[simp] theorem State.writeArg_warn (s : State) (i : Fin 9) (j : Nat) (v : Word) : (s.writeArg i j v).warn = s.warn := rfl
@[simp] theorem State.writeArg_werr (s : State) (i : Fin 9) (j : Nat) (v : Word) : (s.writeArg i j v).werr = s.werr := rfl
@[simp] theorem State.writeArg_rc (s : State) (i : Fin 9) (j : Nat) (v : Word) : (s.writeArg i j v).rc = s.rc := rfl
@[simp] theorem State.writeArg_cmdLatch (s : State) (i : Fin 9) (j : Nat) (v : Word) : (s.writeArg i j v).cmdLatch = s.cmdLatch := rfl
@[simp] theorem State.writeArg_a (s : State) (i : Fin 9) (j : Nat) (v : Word) : (s.writeArg i j v).a = s.a.set i.val (setWord (s.a.get i) j v) i.isLt := rfl
@[simp] theorem State.writeArg_pa (s : State) (i : Fin 9) (j : Nat) (v : Word) : (s.writeArg i j v).pa = s.pa := rfl
@[simp] theorem State.writeArg_r (s : State) (i : Fin 9) (j : Nat) (v : Word) : (s.writeArg i j v).r = s.r := rfl
@[simp] theorem State.writeArg_pr (s : State) (i : Fin 9) (j : Nat) (v : Word) : (s.writeArg i j v).pr = s.pr := rfl
@[simp] theorem State.writeArg_xneg (s : State) (i : Fin 9) (j : Nat) (v : Word) : (s.writeArg i j v).xneg = s.xneg := rfl
@[simp] theorem State.writeArg_yneg (s : State) (i : Fin 9) (j : Nat) (v : Word) : (s.writeArg i j v).yneg = s.yneg := rfl
@[simp] theorem State.writeArg_script (s : State) (i : Fin 9) (j : Nat) (v : Word) : (s.writeArg i j v).script = s.script := rfl
@[simp] theorem State.writeArg_readLog (s : State) (i : Fin 9) (j : Nat) (v : Word) : (s.writeArg i j v).readLog = s.readLog := rfl

@[simp] theorem State.writeArg_W (s : State) (i : Fin 9) (j : Nat) (v : Word) : (s.writeArg i j v).W = s.W := rfl
@[simp] theorem State.writeArg_P (s : State) (i : Fin 9) (j : Nat) (v : Word) (k : Fin 3) : (s.writeArg i j v).P k = s.P k := rfl

/-! ### writeArgX -/

@[simp] theorem State.writeArgX_nwIndex (s : State) (i : Fin 3) (j : Nat) (v : Word) : (s.writeArgX i j v).nwIndex = s.nwIndex := rfl
@[simp] theorem State.writeArgX_ie (s : State) (i : Fin 3) (j : Nat) (v : Word) : (s.writeArgX i j v).ie = s.ie := rfl
@[simp] theorem State.writeArgX_busy (s : State) (i : Fin 3) (j : Nat) (v : Word) : (s.writeArgX i j v).busy = s.busy := rfl
@[simp] theorem State.writeArgX_done (s : State) (i : Fin 3) (j : Nat) (v : Word) : (s.writeArgX i j v).done = s.done := rfl
@[simp] theorem State.writeArgX_warn (s : State) (i : Fin 3) (j : Nat) (v : Word) : (s.writeArgX i j v).warn = s.warn := rfl
@[simp] theorem State.writeArgX_werr (s : State) (i : Fin 3) (j : Nat) (v : Word) : (s.writeArgX i j v).werr = s.werr := rfl
@[simp] theorem State.writeArgX_rc (s : State) (i : Fin 3) (j : Nat) (v : Word) : (s.writeArgX i j v).rc = s.rc := rfl
@[simp] theorem State.writeArgX_cmdLatch (s : State) (i : Fin 3) (j : Nat) (v : Word) : (s.writeArgX i j v).cmdLatch = s.cmdLatch := rfl
@[simp] theorem State.writeArgX_a (s : State) (i : Fin 3) (j : Nat) (v : Word) : (s.writeArgX i j v).a = s.a := rfl
@[simp] theorem State.writeArgX_r (s : State) (i : Fin 3) (j : Nat) (v : Word) : (s.writeArgX i j v).r = s.r := rfl
@[simp] theorem State.writeArgX_pr (s : State) (i : Fin 3) (j : Nat) (v : Word) : (s.writeArgX i j v).pr = s.pr := rfl
@[simp] theorem State.writeArgX_xneg (s : State) (i : Fin 3) (j : Nat) (v : Word) : (s.writeArgX i j v).xneg = s.xneg := rfl
@[simp] theorem State.writeArgX_yneg (s : State) (i : Fin 3) (j : Nat) (v : Word) : (s.writeArgX i j v).yneg = s.yneg := rfl
@[simp] theorem State.writeArgX_script (s : State) (i : Fin 3) (j : Nat) (v : Word) : (s.writeArgX i j v).script = s.script := rfl
@[simp] theorem State.writeArgX_readLog (s : State) (i : Fin 3) (j : Nat) (v : Word) : (s.writeArgX i j v).readLog = s.readLog := rfl

@[simp] theorem State.writeArgX_W (s : State) (i : Fin 3) (j : Nat) (v : Word) : (s.writeArgX i j v).W = s.W := rfl
@[simp] theorem State.writeArgX_A (s : State) (i : Fin 3) (j : Nat) (v : Word) (k : Fin 9) : (s.writeArgX i j v).A k = s.A k := rfl

/-! ### writeArgY -/

@[simp] theorem State.writeArgY_nwIndex (s : State) (i : Fin 3) (j : Nat) (v : Word) : (s.writeArgY i j v).nwIndex = s.nwIndex := rfl
@[simp] theorem State.writeArgY_ie (s : State) (i : Fin 3) (j : Nat) (v : Word) : (s.writeArgY i j v).ie = s.ie := rfl
@[simp] theorem State.writeArgY_busy (s : State) (i : Fin 3) (j : Nat) (v : Word) : (s.writeArgY i j v).busy = s.busy := rfl
@[simp] theorem State.writeArgY_done (s : State) (i : Fin 3) (j : Nat) (v : Word) : (s.writeArgY i j v).done = s.done := rfl
@[simp] theorem State.writeArgY_warn (s : State) (i : Fin 3) (j : Nat) (v : Word) : (s.writeArgY i j v).warn = s.warn := rfl
@[simp] theorem State.writeArgY_werr (s : State) (i : Fin 3) (j : Nat) (v : Word) : (s.writeArgY i j v).werr = s.werr := rfl
@[simp] theorem State.writeArgY_rc (s : State) (i : Fin 3) (j : Nat) (v : Word) : (s.writeArgY i j v).rc = s.rc := rfl
@[simp] theorem State.writeArgY_cmdLatch (s : State) (i : Fin 3) (j : Nat) (v : Word) : (s.writeArgY i j v).cmdLatch = s.cmdLatch := rfl
@[simp] theorem State.writeArgY_a (s : State) (i : Fin 3) (j : Nat) (v : Word) : (s.writeArgY i j v).a = s.a := rfl
@[simp] theorem State.writeArgY_r (s : State) (i : Fin 3) (j : Nat) (v : Word) : (s.writeArgY i j v).r = s.r := rfl
@[simp] theorem State.writeArgY_pr (s : State) (i : Fin 3) (j : Nat) (v : Word) : (s.writeArgY i j v).pr = s.pr := rfl
@[simp] theorem State.writeArgY_xneg (s : State) (i : Fin 3) (j : Nat) (v : Word) : (s.writeArgY i j v).xneg = s.xneg := rfl
@[simp] theorem State.writeArgY_yneg (s : State) (i : Fin 3) (j : Nat) (v : Word) : (s.writeArgY i j v).yneg = s.yneg := rfl
@[simp] theorem State.writeArgY_script (s : State) (i : Fin 3) (j : Nat) (v : Word) : (s.writeArgY i j v).script = s.script := rfl
@[simp] theorem State.writeArgY_readLog (s : State) (i : Fin 3) (j : Nat) (v : Word) : (s.writeArgY i j v).readLog = s.readLog := rfl

@[simp] theorem State.writeArgY_W (s : State) (i : Fin 3) (j : Nat) (v : Word) : (s.writeArgY i j v).W = s.W := rfl
@[simp] theorem State.writeArgY_A (s : State) (i : Fin 3) (j : Nat) (v : Word) (k : Fin 9) : (s.writeArgY i j v).A k = s.A k := rfl

/-! ### hostRead -/

@[simp] theorem State.hostRead_nwIndex (s : State) (off : Nat) : (s.hostRead off).nwIndex = s.nwIndex := rfl
@[simp] theorem State.hostRead_ie (s : State) (off : Nat) : (s.hostRead off).ie = s.ie := rfl
@[simp] theorem State.hostRead_busy (s : State) (off : Nat) : (s.hostRead off).busy = s.busy := rfl
@[simp] theorem State.hostRead_done (s : State) (off : Nat) : (s.hostRead off).done = s.done := rfl
@[simp] theorem State.hostRead_warn (s : State) (off : Nat) : (s.hostRead off).warn = s.warn := rfl
@[simp] theorem State.hostRead_werr (s : State) (off : Nat) : (s.hostRead off).werr = s.werr := rfl
@[simp] theorem State.hostRead_rc (s : State) (off : Nat) : (s.hostRead off).rc = s.rc := rfl
@[simp] theorem State.hostRead_cmdLatch (s : State) (off : Nat) : (s.hostRead off).cmdLatch = s.cmdLatch := rfl
@[simp] theorem State.hostRead_a (s : State) (off : Nat) : (s.hostRead off).a = s.a := rfl
@[simp] theorem State.hostRead_pa (s : State) (off : Nat) : (s.hostRead off).pa = s.pa := rfl
@[simp] theorem State.hostRead_r (s : State) (off : Nat) : (s.hostRead off).r = s.r := rfl
@[simp] theorem State.hostRead_pr (s : State) (off : Nat) : (s.hostRead off).pr = s.pr := rfl
@[simp] theorem State.hostRead_xneg (s : State) (off : Nat) : (s.hostRead off).xneg = s.xneg := rfl
@[simp] theorem State.hostRead_yneg (s : State) (off : Nat) : (s.hostRead off).yneg = s.yneg := rfl
@[simp] theorem State.hostRead_script (s : State) (off : Nat) : (s.hostRead off).script = s.script := rfl
@[simp] theorem State.hostRead_readLog (s : State) (off : Nat) : (s.hostRead off).readLog = s.readWord off :: s.readLog := rfl

@[simp] theorem State.hostRead_W (s : State) (off : Nat) : (s.hostRead off).W = s.W := rfl
@[simp] theorem State.hostRead_A (s : State) (off : Nat) (k : Fin 9) : (s.hostRead off).A k = s.A k := rfl
@[simp] theorem State.hostRead_P (s : State) (off : Nat) (k : Fin 3) : (s.hostRead off).P k = s.P k := rfl

/-! ### popScript -/

@[simp] theorem State.popScript_nwIndex (s : State) : (s.popScript).nwIndex = s.nwIndex := rfl
@[simp] theorem State.popScript_ie (s : State) : (s.popScript).ie = s.ie := rfl
@[simp] theorem State.popScript_busy (s : State) : (s.popScript).busy = s.busy := rfl
@[simp] theorem State.popScript_done (s : State) : (s.popScript).done = s.done := rfl
@[simp] theorem State.popScript_warn (s : State) : (s.popScript).warn = s.warn := rfl
@[simp] theorem State.popScript_werr (s : State) : (s.popScript).werr = s.werr := rfl
@[simp] theorem State.popScript_rc (s : State) : (s.popScript).rc = s.rc := rfl
@[simp] theorem State.popScript_cmdLatch (s : State) : (s.popScript).cmdLatch = s.cmdLatch := rfl
@[simp] theorem State.popScript_a (s : State) : (s.popScript).a = s.a := rfl
@[simp] theorem State.popScript_pa (s : State) : (s.popScript).pa = s.pa := rfl
@[simp] theorem State.popScript_r (s : State) : (s.popScript).r = s.r := rfl
@[simp] theorem State.popScript_pr (s : State) : (s.popScript).pr = s.pr := rfl
@[simp] theorem State.popScript_xneg (s : State) : (s.popScript).xneg = s.xneg := rfl
@[simp] theorem State.popScript_yneg (s : State) : (s.popScript).yneg = s.yneg := rfl
@[simp] theorem State.popScript_script (s : State) : (s.popScript).script = s.script.tail := rfl
@[simp] theorem State.popScript_readLog (s : State) : (s.popScript).readLog = s.readLog := rfl

@[simp] theorem State.popScript_W (s : State) : (s.popScript).W = s.W := rfl
@[simp] theorem State.popScript_A (s : State) (k : Fin 9) : (s.popScript).A k = s.A k := rfl
@[simp] theorem State.popScript_P (s : State) (k : Fin 3) : (s.popScript).P k = s.P k := rfl

/-! ### withLaunched -/

@[simp] theorem State.withLaunched_nwIndex (s : State) (v : Word) : (s.withLaunched v).nwIndex = s.nwIndex := rfl
@[simp] theorem State.withLaunched_ie (s : State) (v : Word) : (s.withLaunched v).ie = s.ie := rfl
@[simp] theorem State.withLaunched_busy (s : State) (v : Word) : (s.withLaunched v).busy = true := rfl
@[simp] theorem State.withLaunched_done (s : State) (v : Word) : (s.withLaunched v).done = false := rfl
@[simp] theorem State.withLaunched_warn (s : State) (v : Word) : (s.withLaunched v).warn = false := rfl
@[simp] theorem State.withLaunched_werr (s : State) (v : Word) : (s.withLaunched v).werr = s.werr := rfl
@[simp] theorem State.withLaunched_rc (s : State) (v : Word) : (s.withLaunched v).rc = .ok := rfl
@[simp] theorem State.withLaunched_cmdLatch (s : State) (v : Word) : (s.withLaunched v).cmdLatch = v := rfl
@[simp] theorem State.withLaunched_a (s : State) (v : Word) : (s.withLaunched v).a = s.a := rfl
@[simp] theorem State.withLaunched_pa (s : State) (v : Word) : (s.withLaunched v).pa = s.pa := rfl
@[simp] theorem State.withLaunched_r (s : State) (v : Word) : (s.withLaunched v).r = s.r := rfl
@[simp] theorem State.withLaunched_pr (s : State) (v : Word) : (s.withLaunched v).pr = s.pr := rfl
@[simp] theorem State.withLaunched_xneg (s : State) (v : Word) : (s.withLaunched v).xneg = s.xneg := rfl
@[simp] theorem State.withLaunched_yneg (s : State) (v : Word) : (s.withLaunched v).yneg = s.yneg := rfl
@[simp] theorem State.withLaunched_script (s : State) (v : Word) : (s.withLaunched v).script = .engine :: s.script := rfl
@[simp] theorem State.withLaunched_readLog (s : State) (v : Word) : (s.withLaunched v).readLog = s.readLog := rfl

@[simp] theorem State.withLaunched_W (s : State) (v : Word) : (s.withLaunched v).W = s.W := rfl
@[simp] theorem State.withLaunched_A (s : State) (v : Word) (k : Fin 9) : (s.withLaunched v).A k = s.A k := rfl
@[simp] theorem State.withLaunched_P (s : State) (v : Word) (k : Fin 3) : (s.withLaunched v).P k = s.P k := rfl

/-! ### guarded writes and points -/

theorem State.guarded_idle (s t : State) (h : s.busy = false) : s.guarded t = t := by simp [State.guarded, h]

theorem State.guarded_busy (s t : State) (h : s.busy = true) : s.guarded t = { s with werr := true } := by
  simp [State.guarded, h]

@[simp] theorem toReg_infinity : Point.infinity.toReg = { x := 0, y := 0, inf := true } := rfl

@[simp] theorem toReg_affine (x y : Nat) : (Point.affine x y).toReg = { x := x, y := y, inf := false } := rfl

@[simp] theorem pointResult_none : pointResult none = PointReg.zero := rfl

@[simp] theorem pointResult_some (p : Point) : pointResult (some p) = p.toReg := rfl

/-- A Point written to a register reads back as itself (spec/10_state.md R32, R33). -/
@[simp] theorem toPoint_toReg (p : Point) : p.toReg.toPoint = p := by cases p <;> rfl

end Sys2Proof.Machine
end

