-- ==== Sys2Proof/Laws/Ops.lean ====
section
/-! SUPPORT. What each shared operation can do, said once: a command always completes, a host access has one of three
answers, and a step is one move of one agent. -/

namespace Sys2Proof.Machine

theorem finish_eq (s : State) (o : CmdOutcome) : s.finish o = .next (s.commit o) := rfl

theorem fail_eq (s : State) (code : RC) : s.fail code = .next (s.commit { rc := code }) := rfl

theorem failWarned_eq (s : State) (code : RC) (warn : Bool) :
    s.failWarned code warn = .next (s.commit { rc := code, warn := warn }) := rfl

theorem finish_next (s t : State) (o : CmdOutcome) (h : s.finish o = .next t) : t = s.commit o := by
  rw [finish_eq] at h; injection h with h; exact h.symm

theorem fail_next (s t : State) (code : RC) (h : s.fail code = .next t) : t = s.commit { rc := code } := by
  rw [fail_eq] at h; injection h with h; exact h.symm

/-- What the exponentiation of `MODEXP` and of the four RSA commands can do. -/
theorem powerCommand_cases (s : State) :
    (s.A 2 < 2 ∧ powerCommand s = .next (s.commit { rc := .invalidParam })) ∨
    (2 ≤ s.A 2 ∧ powerCommand s = .next (s.commit { r0 := modexp (s.A 0) (s.A 1) (s.A 2) })) := by
  by_cases h : s.A 2 < 2
  · exact .inl ⟨h, by simp [powerCommand, h, fail_eq]⟩
  · exact .inr ⟨by omega, by simp [powerCommand, h, finish_eq]⟩

theorem inWindow_iff (off : Nat) : inWindow off = true ↔ off < 4096 := by
  unfold inWindow; exact decide_eq_true_iff

theorem alignedWord_iff (off bytes : Nat) : alignedWord off bytes = true ↔ off % 4 = 0 ∧ bytes = 4 := by
  simp [alignedWord]

/-- A supported access of a script, read and write. -/
theorem wellFormed_read_iff (off bytes : Nat) :
    (Event.read off bytes).wellFormed = true ↔ off < 4096 ∧ off % 4 = 0 ∧ bytes = 4 := by
  rw [Event.wellFormed, Bool.and_eq_true, inWindow_iff, alignedWord_iff]

theorem wellFormed_write_iff (off bytes : Nat) (v : Word) :
    (Event.write off bytes v).wellFormed = true ↔ off < 4096 ∧ off % 4 = 0 ∧ bytes = 4 := by
  rw [Event.wellFormed, Bool.and_eq_true, inWindow_iff, alignedWord_iff]

/-- An answered host access was an aligned 32-bit one inside the window. -/
theorem portAccess_next (off bytes : Nat) (s t : State) (h : portAccess off bytes s = .next t) :
    off < 4096 ∧ off % 4 = 0 ∧ bytes = 4 ∧ t = s := by
  unfold portAccess at h
  split at h
  · cases h
  · split at h
    · cases h
    · rename_i h1 h2
      injection h with h
      simp [inWindow, alignedWord, Config.windowBytes] at h1 h2
      exact ⟨of_decide_eq_true h1, h2.1, h2.2, h.symm⟩

theorem portAccess_ok (off bytes : Nat) (s : State) (h1 : off < 4096) (h2 : off % 4 = 0) (h3 : bytes = 4) :
    portAccess off bytes s = .next s := by
  simp [portAccess, inWindow, alignedWord, Config.windowBytes, h1, h2, h3]

theorem engineTurn_idle (s : State) (h : s.busy = false) : engineTurn s = .next s := by simp [engineTurn, h]

theorem engineTurn_busy (s : State) (h : s.busy = true) : engineTurn s = completeLatched s := by simp [engineTurn, h]

theorem completeLatched_ok (s : State) (i : Instr) (h : decode s.cmdLatch = .ok i) : completeLatched s = exec i s := by
  simp [completeLatched, h]

theorem completeLatched_error (s : State) (e : DecodeError) (h : decode s.cmdLatch = .error e) :
    completeLatched s = .next (s.commit { rc := .illegalCmd }) := by
  simp [completeLatched, h, fail_eq]

theorem step_nil (s : State) (h : s.script = []) : step s = engineTurn s := by simp [step, nextMove, h]

theorem step_cons (s : State) (e : Event) (es : List Event) (h : s.script = e :: es) :
    step s = runEvent e s.popScript := by simp [step, nextMove, h]

/-- The five things a step that answers a next state can have been. -/
theorem step_cases (s t : State) (h : step s = .next t) :
    (s.script = [] ∧ engineTurn s = .next t) ∨
    (∃ es, s.script = .engine :: es ∧ engineTurn s.popScript = .next t) ∨
    (∃ off es, s.script = .read off 4 :: es ∧ off < 4096 ∧ off % 4 = 0 ∧ t = s.popScript.hostRead off) ∨
    (∃ off v es, s.script = .write off 4 v :: es ∧ off < 4096 ∧ off % 4 = 0 ∧ t = s.popScript.writeWord off v) ∨
    (∃ es, s.script = .reset :: es ∧ t = s.popScript.resetCore) := by
  cases hs : s.script with
  | nil => rw [step_nil s hs] at h; exact .inl ⟨rfl, h⟩
  | cons e es =>
    rw [step_cons s e es hs] at h
    cases e with
    | engine => exact .inr (.inl ⟨es, rfl, h⟩)
    | read off bytes =>
      obtain ⟨h1, h2, h3, h4⟩ := portAccess_next _ _ _ _ h
      subst h3
      exact .inr (.inr (.inl ⟨off, es, rfl, h1, h2, h4⟩))
    | write off bytes v =>
      obtain ⟨h1, h2, h3, h4⟩ := portAccess_next _ _ _ _ h
      subst h3
      exact .inr (.inr (.inr (.inl ⟨off, v, es, rfl, h1, h2, h4⟩)))
    | reset =>
      injection h with h
      exact .inr (.inr (.inr (.inr ⟨es, rfl, h.symm⟩)))

end Sys2Proof.Machine
end

