-- ==== Sys2Proof/Laws/Exec.lean ====
section
/-! SUPPORT. Every command completes: whatever the state, its meaning is one completion (spec/10_state.md R41, R42:
`Exec` is a total function). The inversion lemma the frame, the invariants and the result-code claims start from. -/

namespace Sys2Proof.Machine

theorem powerCommand_commits (s : State) : ∃ o, powerCommand s = .next (s.commit o) := by
  rcases powerCommand_cases s with ⟨_, h⟩ | ⟨_, h⟩ <;> exact ⟨_, h⟩

theorem execModadd_commits (s : State) : ∃ o, execModadd s = .next (s.commit o) := by
  unfold execModadd
  dsimp only
  repeat' split
  all_goals exact ⟨_, rfl⟩

theorem execModsub_commits (s : State) : ∃ o, execModsub s = .next (s.commit o) := by
  unfold execModsub
  dsimp only
  repeat' split
  all_goals exact ⟨_, rfl⟩

theorem execModmul_commits (s : State) : ∃ o, execModmul s = .next (s.commit o) := by
  unfold execModmul
  dsimp only
  repeat' split
  all_goals exact ⟨_, rfl⟩

theorem execModmac_commits (s : State) : ∃ o, execModmac s = .next (s.commit o) := by
  unfold execModmac
  dsimp only
  repeat' split
  all_goals exact ⟨_, rfl⟩

theorem execModexp_commits (s : State) : ∃ o, execModexp s = .next (s.commit o) := by
  exact powerCommand_commits s

theorem execXgcd_commits (s : State) : ∃ o, execXgcd s = .next (s.commit o) := by
  exact ⟨_, rfl⟩

theorem execModinv_commits (s : State) : ∃ o, execModinv s = .next (s.commit o) := by
  unfold execModinv
  dsimp only
  repeat' split
  all_goals exact ⟨_, rfl⟩

theorem execRsaKeygen_commits (s : State) : ∃ o, execRsaKeygen s = .next (s.commit o) := by
  unfold execRsaKeygen
  dsimp only
  repeat' split
  all_goals exact ⟨_, rfl⟩

theorem execRsaEncrypt_commits (s : State) : ∃ o, execRsaEncrypt s = .next (s.commit o) := by
  exact powerCommand_commits s

theorem execRsaDecrypt_commits (s : State) : ∃ o, execRsaDecrypt s = .next (s.commit o) := by
  exact powerCommand_commits s

theorem execRsaSign_commits (s : State) : ∃ o, execRsaSign s = .next (s.commit o) := by
  exact powerCommand_commits s

theorem execRsaVerify_commits (s : State) : ∃ o, execRsaVerify s = .next (s.commit o) := by
  exact powerCommand_commits s

theorem execDhPubkey_commits (s : State) : ∃ o, execDhPubkey s = .next (s.commit o) := by
  unfold execDhPubkey
  dsimp only
  repeat' split
  all_goals exact ⟨_, rfl⟩

theorem execDhShared_commits (s : State) : ∃ o, execDhShared s = .next (s.commit o) := by
  unfold execDhShared
  dsimp only
  repeat' split
  all_goals exact ⟨_, rfl⟩

theorem execEgKeygen_commits (s : State) : ∃ o, execEgKeygen s = .next (s.commit o) := by
  unfold execEgKeygen
  dsimp only
  repeat' split
  all_goals exact ⟨_, rfl⟩

theorem execEgEncrypt_commits (s : State) : ∃ o, execEgEncrypt s = .next (s.commit o) := by
  unfold execEgEncrypt
  dsimp only
  repeat' split
  all_goals exact ⟨_, rfl⟩

theorem execEgDecrypt_commits (s : State) : ∃ o, execEgDecrypt s = .next (s.commit o) := by
  unfold execEgDecrypt
  dsimp only
  repeat' split
  all_goals exact ⟨_, rfl⟩

theorem execEgSign_commits (s : State) : ∃ o, execEgSign s = .next (s.commit o) := by
  unfold execEgSign
  dsimp only
  repeat' split
  all_goals exact ⟨_, rfl⟩

theorem execEgVerify_commits (s : State) : ∃ o, execEgVerify s = .next (s.commit o) := by
  unfold execEgVerify
  dsimp only
  repeat' split
  all_goals exact ⟨_, rfl⟩

theorem execDsaKeygen_commits (s : State) : ∃ o, execDsaKeygen s = .next (s.commit o) := by
  unfold execDsaKeygen
  dsimp only
  repeat' split
  all_goals exact ⟨_, rfl⟩

theorem execDsaSign_commits (s : State) : ∃ o, execDsaSign s = .next (s.commit o) := by
  unfold execDsaSign
  dsimp only
  repeat' split
  all_goals exact ⟨_, rfl⟩

theorem execDsaVerify_commits (s : State) : ∃ o, execDsaVerify s = .next (s.commit o) := by
  unfold execDsaVerify
  dsimp only
  repeat' split
  all_goals exact ⟨_, rfl⟩

theorem execEcOncurve_commits (s : State) : ∃ o, execEcOncurve s = .next (s.commit o) := by
  unfold execEcOncurve
  dsimp only
  repeat' split
  all_goals exact ⟨_, rfl⟩

theorem execEcPadd_commits (s : State) : ∃ o, execEcPadd s = .next (s.commit o) := by
  unfold execEcPadd
  dsimp only
  repeat' split
  all_goals exact ⟨_, rfl⟩

theorem execEcPneg_commits (s : State) : ∃ o, execEcPneg s = .next (s.commit o) := by
  unfold execEcPneg
  dsimp only
  repeat' split
  all_goals exact ⟨_, rfl⟩

theorem execEcPmul_commits (s : State) : ∃ o, execEcPmul s = .next (s.commit o) := by
  unfold execEcPmul
  dsimp only
  repeat' split
  all_goals exact ⟨_, rfl⟩

theorem execEcKeygen_commits (s : State) : ∃ o, execEcKeygen s = .next (s.commit o) := by
  unfold execEcKeygen
  dsimp only
  repeat' split
  all_goals exact ⟨_, rfl⟩

theorem execEcdsaSign_commits (s : State) : ∃ o, execEcdsaSign s = .next (s.commit o) := by
  unfold execEcdsaSign
  dsimp only
  repeat' split
  all_goals exact ⟨_, rfl⟩

theorem execEcdsaVerify_commits (s : State) : ∃ o, execEcdsaVerify s = .next (s.commit o) := by
  unfold execEcdsaVerify
  dsimp only
  repeat' split
  all_goals exact ⟨_, rfl⟩

theorem execEcegEncrypt_commits (s : State) : ∃ o, execEcegEncrypt s = .next (s.commit o) := by
  unfold execEcegEncrypt
  dsimp only
  repeat' split
  all_goals exact ⟨_, rfl⟩

theorem execEcegDecrypt_commits (s : State) : ∃ o, execEcegDecrypt s = .next (s.commit o) := by
  unfold execEcegDecrypt
  dsimp only
  repeat' split
  all_goals exact ⟨_, rfl⟩

/-- Every command completes with some outcome (spec/10_state.md R41, R42). -/
theorem exec_commits (i : Instr) (s : State) : ∃ o, exec i s = .next (s.commit o) := by
  cases i with
  | modadd => exact execModadd_commits s
  | modsub => exact execModsub_commits s
  | modmul => exact execModmul_commits s
  | modmac => exact execModmac_commits s
  | modexp => exact execModexp_commits s
  | xgcd => exact execXgcd_commits s
  | modinv => exact execModinv_commits s
  | rsaKeygen => exact execRsaKeygen_commits s
  | rsaEncrypt => exact execRsaEncrypt_commits s
  | rsaDecrypt => exact execRsaDecrypt_commits s
  | rsaSign => exact execRsaSign_commits s
  | rsaVerify => exact execRsaVerify_commits s
  | dhPubkey => exact execDhPubkey_commits s
  | dhShared => exact execDhShared_commits s
  | egKeygen => exact execEgKeygen_commits s
  | egEncrypt => exact execEgEncrypt_commits s
  | egDecrypt => exact execEgDecrypt_commits s
  | egSign => exact execEgSign_commits s
  | egVerify => exact execEgVerify_commits s
  | dsaKeygen => exact execDsaKeygen_commits s
  | dsaSign => exact execDsaSign_commits s
  | dsaVerify => exact execDsaVerify_commits s
  | ecOncurve => exact execEcOncurve_commits s
  | ecPadd => exact execEcPadd_commits s
  | ecPneg => exact execEcPneg_commits s
  | ecPmul => exact execEcPmul_commits s
  | ecKeygen => exact execEcKeygen_commits s
  | ecdsaSign => exact execEcdsaSign_commits s
  | ecdsaVerify => exact execEcdsaVerify_commits s
  | ecegEncrypt => exact execEcegEncrypt_commits s
  | ecegDecrypt => exact execEcegDecrypt_commits s

end Sys2Proof.Machine
end

