-- ==== Sys2Proof/Laws/PerInstr.lean ====
section
/-! SUPPORT. What every command's encoding says of its family (spec/30_encoding.md R82: "The high nibble of the opcode
is the family"), command by command. -/

namespace Sys2Proof.Laws

/-- The family number of a command: 1 kernel, 2 RSA, 3 Diffie-Hellman, 4 ElGamal, 5 DSA, 6 elliptic curves
(spec/30_encoding.md R82). -/
def familyNumber : Instr → Nat
  | .modadd | .modsub | .modmul | .modmac | .modexp | .xgcd | .modinv => 1
  | .rsaKeygen | .rsaEncrypt | .rsaDecrypt | .rsaSign | .rsaVerify => 2
  | .dhPubkey | .dhShared => 3
  | .egKeygen | .egEncrypt | .egDecrypt | .egSign | .egVerify => 4
  | .dsaKeygen | .dsaSign | .dsaVerify => 5
  | .ecOncurve | .ecPadd | .ecPneg | .ecPmul | .ecKeygen | .ecdsaSign | .ecdsaVerify | .ecegEncrypt | .ecegDecrypt => 6

/-- The word has zero bits 31:8 and the family number in bits 7:4 (spec/30_encoding.md R80, R82). -/
def OpcodeFamily.Statement (i : Instr) : Prop :=
  (encode i).extractLsb' 8 24 = 0 ∧ ((encode i).extractLsb' 4 4).toNat = familyNumber i

theorem OpcodeFamily.modadd : OpcodeFamily.Statement .modadd := by unfold OpcodeFamily.Statement; decide
theorem OpcodeFamily.modsub : OpcodeFamily.Statement .modsub := by unfold OpcodeFamily.Statement; decide
theorem OpcodeFamily.modmul : OpcodeFamily.Statement .modmul := by unfold OpcodeFamily.Statement; decide
theorem OpcodeFamily.modmac : OpcodeFamily.Statement .modmac := by unfold OpcodeFamily.Statement; decide
theorem OpcodeFamily.modexp : OpcodeFamily.Statement .modexp := by unfold OpcodeFamily.Statement; decide
theorem OpcodeFamily.xgcd : OpcodeFamily.Statement .xgcd := by unfold OpcodeFamily.Statement; decide
theorem OpcodeFamily.modinv : OpcodeFamily.Statement .modinv := by unfold OpcodeFamily.Statement; decide
theorem OpcodeFamily.rsaKeygen : OpcodeFamily.Statement .rsaKeygen := by unfold OpcodeFamily.Statement; decide
theorem OpcodeFamily.rsaEncrypt : OpcodeFamily.Statement .rsaEncrypt := by unfold OpcodeFamily.Statement; decide
theorem OpcodeFamily.rsaDecrypt : OpcodeFamily.Statement .rsaDecrypt := by unfold OpcodeFamily.Statement; decide
theorem OpcodeFamily.rsaSign : OpcodeFamily.Statement .rsaSign := by unfold OpcodeFamily.Statement; decide
theorem OpcodeFamily.rsaVerify : OpcodeFamily.Statement .rsaVerify := by unfold OpcodeFamily.Statement; decide
theorem OpcodeFamily.dhPubkey : OpcodeFamily.Statement .dhPubkey := by unfold OpcodeFamily.Statement; decide
theorem OpcodeFamily.dhShared : OpcodeFamily.Statement .dhShared := by unfold OpcodeFamily.Statement; decide
theorem OpcodeFamily.egKeygen : OpcodeFamily.Statement .egKeygen := by unfold OpcodeFamily.Statement; decide
theorem OpcodeFamily.egEncrypt : OpcodeFamily.Statement .egEncrypt := by unfold OpcodeFamily.Statement; decide
theorem OpcodeFamily.egDecrypt : OpcodeFamily.Statement .egDecrypt := by unfold OpcodeFamily.Statement; decide
theorem OpcodeFamily.egSign : OpcodeFamily.Statement .egSign := by unfold OpcodeFamily.Statement; decide
theorem OpcodeFamily.egVerify : OpcodeFamily.Statement .egVerify := by unfold OpcodeFamily.Statement; decide
theorem OpcodeFamily.dsaKeygen : OpcodeFamily.Statement .dsaKeygen := by unfold OpcodeFamily.Statement; decide
theorem OpcodeFamily.dsaSign : OpcodeFamily.Statement .dsaSign := by unfold OpcodeFamily.Statement; decide
theorem OpcodeFamily.dsaVerify : OpcodeFamily.Statement .dsaVerify := by unfold OpcodeFamily.Statement; decide
theorem OpcodeFamily.ecOncurve : OpcodeFamily.Statement .ecOncurve := by unfold OpcodeFamily.Statement; decide
theorem OpcodeFamily.ecPadd : OpcodeFamily.Statement .ecPadd := by unfold OpcodeFamily.Statement; decide
theorem OpcodeFamily.ecPneg : OpcodeFamily.Statement .ecPneg := by unfold OpcodeFamily.Statement; decide
theorem OpcodeFamily.ecPmul : OpcodeFamily.Statement .ecPmul := by unfold OpcodeFamily.Statement; decide
theorem OpcodeFamily.ecKeygen : OpcodeFamily.Statement .ecKeygen := by unfold OpcodeFamily.Statement; decide
theorem OpcodeFamily.ecdsaSign : OpcodeFamily.Statement .ecdsaSign := by unfold OpcodeFamily.Statement; decide
theorem OpcodeFamily.ecdsaVerify : OpcodeFamily.Statement .ecdsaVerify := by unfold OpcodeFamily.Statement; decide
theorem OpcodeFamily.ecegEncrypt : OpcodeFamily.Statement .ecegEncrypt := by unfold OpcodeFamily.Statement; decide
theorem OpcodeFamily.ecegDecrypt : OpcodeFamily.Statement .ecegDecrypt := by unfold OpcodeFamily.Statement; decide

end Sys2Proof.Laws
end

