-- ==== Sys2Proof/Laws/Window.lean ====
section
/-! SUPPORT. The address map read forward: where each word of each register stands (spec/20_memory.md R61, R65). -/

namespace Sys2Proof.Machine

theorem locate_id : locate 0x000 = .id := by decide
theorem locate_ctrl : locate 0x004 = .ctrl := by decide
theorem locate_status : locate 0x008 = .status := by decide
theorem locate_cmd : locate 0x00C = .cmd := by decide
theorem locate_painf : locate 0x010 = .painf := by decide
theorem locate_rflags : locate 0x014 = .rflags := by decide

theorem locate_arg (i : Fin 9) (j : Nat) (hj : j < 16) : locate (0x400 + 0x40 * i.val + 4 * j) = .arg i j := by
  revert i; interval_cases j <;> decide

theorem locate_argX (i : Fin 3) (j : Nat) (hj : j < 16) : locate (0x800 + 0x80 * i.val + 4 * j) = .argX i j := by
  revert i; interval_cases j <;> decide

theorem locate_argY (i : Fin 3) (j : Nat) (hj : j < 16) : locate (0x840 + 0x80 * i.val + 4 * j) = .argY i j := by
  revert i; interval_cases j <;> decide

theorem locate_res (i : Fin 3) (j : Nat) (hj : j < 16) : locate (0xC00 + 0x40 * i.val + 4 * j) = .res i j := by
  revert i; interval_cases j <;> decide

theorem locate_resX (i : Fin 2) (j : Nat) (hj : j < 16) : locate (0xE00 + 0x80 * i.val + 4 * j) = .resX i j := by
  revert i; interval_cases j <;> decide

theorem locate_resY (i : Fin 2) (j : Nat) (hj : j < 16) : locate (0xE40 + 0x80 * i.val + 4 * j) = .resY i j := by
  revert i; interval_cases j <;> decide

/-- Everything an offset can name, with the offsets that name it. -/
theorem locate_cases (off : Nat) :
    (locate off = .id ∧ off = 0x000) ∨ (locate off = .ctrl ∧ off = 0x004) ∨ (locate off = .status ∧ off = 0x008) ∨
    (locate off = .cmd ∧ off = 0x00C) ∨ (locate off = .painf ∧ off = 0x010) ∨ (locate off = .rflags ∧ off = 0x014) ∨
    (∃ i j, locate off = .arg i j ∧ j < 16 ∧ off - off % 4 = 0x400 + 0x40 * i.val + 4 * j) ∨
    (∃ i j, locate off = .argX i j ∧ j < 16 ∧ off - off % 4 = 0x800 + 0x80 * i.val + 4 * j) ∨
    (∃ i j, locate off = .argY i j ∧ j < 16 ∧ off - off % 4 = 0x840 + 0x80 * i.val + 4 * j) ∨
    (∃ i j, locate off = .res i j ∧ j < 16 ∧ off - off % 4 = 0xC00 + 0x40 * i.val + 4 * j) ∨
    (∃ i j, locate off = .resX i j ∧ j < 16 ∧ off - off % 4 = 0xE00 + 0x80 * i.val + 4 * j) ∨
    (∃ i j, locate off = .resY i j ∧ j < 16 ∧ off - off % 4 = 0xE40 + 0x80 * i.val + 4 * j) ∨
    locate off = .reserved := by
  unfold locate slotWord
  by_cases h0 : off = 0x000
  · rw [if_pos h0]; exact .inl ⟨rfl, h0⟩
  rw [if_neg h0]
  by_cases h1 : off = 0x004
  · rw [if_pos h1]; exact .inr (.inl ⟨rfl, h1⟩)
  rw [if_neg h1]
  by_cases h2 : off = 0x008
  · rw [if_pos h2]; exact .inr (.inr (.inl ⟨rfl, h2⟩))
  rw [if_neg h2]
  by_cases h3 : off = 0x00C
  · rw [if_pos h3]; exact .inr (.inr (.inr (.inl ⟨rfl, h3⟩)))
  rw [if_neg h3]
  by_cases h4 : off = 0x010
  · rw [if_pos h4]; exact .inr (.inr (.inr (.inr (.inl ⟨rfl, h4⟩))))
  rw [if_neg h4]
  by_cases h5 : off = 0x014
  · rw [if_pos h5]; exact .inr (.inr (.inr (.inr (.inr (.inl ⟨rfl, h5⟩)))))
  rw [if_neg h5]
  by_cases h6 : 0x400 ≤ off ∧ off < 0x640
  · rw [dif_pos h6]; exact .inr (.inr (.inr (.inr (.inr (.inr (.inl ⟨_, _, rfl, by omega, by dsimp only; omega⟩))))))
  rw [dif_neg h6]
  by_cases h7 : 0x800 ≤ off ∧ off < 0x980
  · rw [dif_pos h7]
    by_cases h8 : (off - 0x800) % 0x80 < 0x40
    · rw [if_pos h8]
      exact .inr (.inr (.inr (.inr (.inr (.inr (.inr (.inl ⟨_, _, rfl, by omega, by dsimp only; omega⟩)))))))
    · rw [if_neg h8]
      exact .inr (.inr (.inr (.inr (.inr (.inr (.inr (.inr (.inl ⟨_, _, rfl, by omega, by dsimp only; omega⟩))))))))
  rw [dif_neg h7]
  by_cases h9 : 0xC00 ≤ off ∧ off < 0xCC0
  · rw [dif_pos h9]
    exact .inr (.inr (.inr (.inr (.inr (.inr (.inr (.inr (.inr (.inl ⟨_, _, rfl, by omega, by dsimp only; omega⟩)))))))))
  rw [dif_neg h9]
  by_cases h10 : 0xE00 ≤ off ∧ off < 0xF00
  · rw [dif_pos h10]
    by_cases h11 : (off - 0xE00) % 0x80 < 0x40
    · rw [if_pos h11]
      exact .inr (.inr (.inr (.inr (.inr (.inr (.inr (.inr (.inr (.inr (.inl
        ⟨_, _, rfl, by omega, by dsimp only; omega⟩))))))))))
    · rw [if_neg h11]
      exact .inr (.inr (.inr (.inr (.inr (.inr (.inr (.inr (.inr (.inr (.inr (.inl
        ⟨_, _, rfl, by omega, by dsimp only; omega⟩)))))))))))
  rw [dif_neg h10]
  exact .inr (.inr (.inr (.inr (.inr (.inr (.inr (.inr (.inr (.inr (.inr (.inr rfl)))))))))))

theorem guarded_idle (s written : State) (h : s.busy = false) : s.guarded written = written := by simp [State.guarded, h]

theorem guarded_busy (s written : State) (h : s.busy = true) : s.guarded written = { s with werr := true } := by
  simp [State.guarded, h]

/-- Everything a host write can do, with the place that makes it do so (spec/20_memory.md R63, R64). -/
theorem writeWord_cases (s : State) (off : Nat) (v : Word) :
    s.writeWord off v = s ∨
    (s.busy = true ∧ s.writeWord off v = { s with werr := true }) ∨
    (off = 0x004 ∧ s.writeWord off v = s.writeCtrl v) ∨
    (off = 0x008 ∧ s.writeWord off v = s.writeStatus v) ∨
    (off = 0x00C ∧ s.busy = false ∧ s.writeWord off v = s.launch v) ∨
    (off = 0x010 ∧ s.busy = false ∧ s.writeWord off v = s.writePainf v) ∨
    (∃ i j, locate off = .arg i j ∧ s.busy = false ∧ j < s.NW ∧ s.writeWord off v = s.writeArg i j v) ∨
    (∃ i j, locate off = .argX i j ∧ s.busy = false ∧ j < s.NW ∧ s.writeWord off v = s.writeArgX i j v) ∨
    (∃ i j, locate off = .argY i j ∧ s.busy = false ∧ j < s.NW ∧ s.writeWord off v = s.writeArgY i j v) := by
  unfold State.writeWord
  rcases locate_cases off with ⟨h, _⟩ | ⟨h, e⟩ | ⟨h, e⟩ | ⟨h, e⟩ | ⟨h, e⟩ | ⟨h, _⟩ | ⟨i, j, h, _⟩ | ⟨i, j, h, _⟩ |
    ⟨i, j, h, _⟩ | ⟨i, j, h, _⟩ | ⟨i, j, h, _⟩ | ⟨i, j, h, _⟩ | h
  · rw [h]; exact .inl rfl
  · rw [h]; exact .inr (.inr (.inl ⟨e, rfl⟩))
  · rw [h]; exact .inr (.inr (.inr (.inl ⟨e, rfl⟩)))
  · rw [h]
    rcases Bool.eq_false_or_eq_true s.busy with hb | hb
    · exact .inr (.inl ⟨hb, guarded_busy _ _ hb⟩)
    · exact .inr (.inr (.inr (.inr (.inl ⟨e, hb, guarded_idle _ _ hb⟩))))
  · rw [h]
    rcases Bool.eq_false_or_eq_true s.busy with hb | hb
    · exact .inr (.inl ⟨hb, guarded_busy _ _ hb⟩)
    · exact .inr (.inr (.inr (.inr (.inr (.inl ⟨e, hb, guarded_idle _ _ hb⟩)))))
  · rw [h]; exact .inl rfl
  · rw [h]
    by_cases hj : j < s.NW
    · dsimp only; rw [if_pos hj]
      rcases Bool.eq_false_or_eq_true s.busy with hb | hb
      · exact .inr (.inl ⟨hb, guarded_busy _ _ hb⟩)
      · exact .inr (.inr (.inr (.inr (.inr (.inr (.inl ⟨i, j, rfl, hb, hj, guarded_idle _ _ hb⟩))))))
    · dsimp only; rw [if_neg hj]; exact .inl rfl
  · rw [h]
    by_cases hj : j < s.NW
    · dsimp only; rw [if_pos hj]
      rcases Bool.eq_false_or_eq_true s.busy with hb | hb
      · exact .inr (.inl ⟨hb, guarded_busy _ _ hb⟩)
      · exact .inr (.inr (.inr (.inr (.inr (.inr (.inr (.inl ⟨i, j, rfl, hb, hj, guarded_idle _ _ hb⟩)))))))
    · dsimp only; rw [if_neg hj]; exact .inl rfl
  · rw [h]
    by_cases hj : j < s.NW
    · dsimp only; rw [if_pos hj]
      rcases Bool.eq_false_or_eq_true s.busy with hb | hb
      · exact .inr (.inl ⟨hb, guarded_busy _ _ hb⟩)
      · exact .inr (.inr (.inr (.inr (.inr (.inr (.inr (.inr ⟨i, j, rfl, hb, hj, guarded_idle _ _ hb⟩)))))))
    · dsimp only; rw [if_neg hj]; exact .inl rfl
  · rw [h]; exact .inl rfl
  · rw [h]; exact .inl rfl
  · rw [h]; exact .inl rfl
  · rw [h]; exact .inl rfl

end Sys2Proof.Machine
end

