-- ==== Sys2Proof/Tests/Slice0.lean ====
section
/-! SUPPORT. The model's own tests: ill-formed terms refused, every command's word, single steps with the results
spec/95_test_vectors.md and spec/96_test_vectors_schemes.md give, and a witness for the hypotheses of every statement. -/

open Sys2Proof Sys2Proof.Machine

namespace Sys2Proof.Tests

/-! ### Well-formedness -/

theorem test_wellFormed_commands : ∀ i ∈ [Instr.modadd, .xgcd, .ecegDecrypt], i.wellFormed = true := by decide
theorem test_legalWord_refuses_an_upper_bit : legalWord 0x00000110#32 = false := by decide
theorem test_legalWord_refuses_the_top_bit : legalWord 0x80000010#32 = false := by decide
theorem test_legalWord_refuses_an_unassigned_opcode : legalWord 0x00000017#32 = false := by decide
theorem test_legalWord_refuses_zero : legalWord 0#32 = false := by decide
theorem test_legalWord_takes_the_last_opcode : legalWord 0x00000068#32 = true := by decide
theorem test_inWindow_refuses_4096 : inWindow 4096 = false := by decide
theorem test_inWindow_takes_the_last_word : inWindow 4092 = true := by decide
theorem test_alignedWord_refuses_an_odd_offset : alignedWord 0x401 4 = false := by decide
theorem test_alignedWord_refuses_a_halfword : alignedWord 0x400 2 = false := by decide
theorem test_event_refuses_a_read_outside : (Event.read 4096 4).wellFormed = false := by decide
theorem test_event_refuses_a_misaligned_write : (Event.write 0x00E 4 0).wellFormed = false := by decide
theorem test_event_refuses_a_byte_read : (Event.read 0x008 1).wellFormed = false := by decide

/-! ### The words of the opcode map, written out from spec/30_encoding.md R82 -/

theorem test_word_kernel :
    decode 0b00000000000000000000000000010000#32 = .ok .modadd ∧ decode 0x00000011#32 = .ok .modsub ∧
    decode 0x00000012#32 = .ok .modmul ∧ decode 0x00000013#32 = .ok .modmac ∧ decode 0x00000014#32 = .ok .modexp ∧
    decode 0x00000015#32 = .ok .xgcd ∧ decode 0x00000016#32 = .ok .modinv := by decide
theorem test_word_rsa :
    decode 0b00000000000000000000000000100000#32 = .ok .rsaKeygen ∧ decode 0x00000021#32 = .ok .rsaEncrypt ∧
    decode 0x00000022#32 = .ok .rsaDecrypt ∧ decode 0x00000023#32 = .ok .rsaSign ∧
    decode 0x00000024#32 = .ok .rsaVerify := by decide
theorem test_word_dh :
    decode 0b00000000000000000000000000110000#32 = .ok .dhPubkey ∧ decode 0x00000031#32 = .ok .dhShared := by decide
theorem test_word_elgamal :
    decode 0b00000000000000000000000001000000#32 = .ok .egKeygen ∧ decode 0x00000041#32 = .ok .egEncrypt ∧
    decode 0x00000042#32 = .ok .egDecrypt ∧ decode 0x00000043#32 = .ok .egSign ∧
    decode 0x00000044#32 = .ok .egVerify := by decide
theorem test_word_dsa :
    decode 0b00000000000000000000000001010000#32 = .ok .dsaKeygen ∧ decode 0x00000051#32 = .ok .dsaSign ∧
    decode 0x00000052#32 = .ok .dsaVerify := by decide
theorem test_word_ec :
    decode 0b00000000000000000000000001100000#32 = .ok .ecOncurve ∧ decode 0x00000061#32 = .ok .ecPadd ∧
    decode 0x00000062#32 = .ok .ecPneg ∧ decode 0x00000063#32 = .ok .ecPmul ∧ decode 0x00000064#32 = .ok .ecKeygen ∧
    decode 0x00000065#32 = .ok .ecdsaSign ∧ decode 0x00000066#32 = .ok .ecdsaVerify ∧
    decode 0x00000067#32 = .ok .ecegEncrypt ∧ decode 0x00000068#32 = .ok .ecegDecrypt := by decide
theorem test_word_refused_upper_bits : decode 0x00010010#32 = .error .nonZeroUpperBits := by decide
theorem test_word_refused_opcode : decode 0x00000069#32 = .error .unassignedOpcode := by decide
theorem test_bytes_low_byte_first : decodeBytes [0x63, 0, 0, 0] = .ok .ecPmul := by decide
theorem test_bytes_of_another_length : decodeBytes [0x63, 0, 0] = .error .notOneWord := by decide
theorem test_table_word : decodeTableWord 32 0x65 = some .ecdsaSign ∧ decodeTableWord 8 0x65 = some .ecdsaSign := by decide

/-! ### Single commands: the vectors of spec/95_test_vectors.md section 5 and spec/96_test_vectors_schemes.md -/

/-- The machine after reset with some scalar and point arguments loaded. -/
def args (scalars : List (Fin 9 × Nat)) (points : List (Fin 3 × Point)) : State :=
  { State.reset with
    a := scalars.foldl (fun v q => v.set q.1.val q.2 q.1.isLt) State.reset.a
    pa := points.foldl (fun v q => v.set q.1.val q.2.toReg q.1.isLt) State.reset.pa }

/-- `PR0` and `PR1` of a command that returns no point. -/
def noPoints : List PointReg := [⟨0, 0, false⟩, ⟨0, 0, false⟩]

/-- The command, launched on the given arguments, completes in one step with these registers. -/
def completes (i : Instr) (s : State) (status : Word) (r : List Nat) (pr : List PointReg) (rflags : Word) : Bool :=
  match step (s.launch (encode i)) with
  | .next t => t.statusWord == status && t.r.toList == r && t.pr.toList == pr && t.rflagsWord == rflags
  | .fault _ => false
  | .refused _ => false

theorem test_modadd_sum_of_65_bits :
    completes .modadd (args [(0, 0xFFFFFFFFFFFFFFFF), (1, 0xFFFFFFFFFFFFFFFF), (2, 0xFFFFFFFFFFFFFFC5)] []) 0x02 [116, 0, 0] noPoints 0x000 = true := by decide
theorem test_modadd_modulus_one :
    completes .modadd (args [(0, 5), (1, 7), (2, 1)] []) 0x12 [0, 0, 0] noPoints 0x000 = true := by decide
theorem test_modsub_negative_difference :
    completes .modsub (args [(1, 0xFFFFFFFFFFFFFFFF), (2, 0xFFFFFFFFFFFFFFC5)] []) 0x02 [0xFFFFFFFFFFFFFF8B, 0, 0] noPoints 0x000 = true := by decide
theorem test_modsub_modulus_one :
    completes .modsub (args [(0, 3), (1, 5), (2, 1)] []) 0x12 [0, 0, 0] noPoints 0x000 = true := by decide
theorem test_modmul_product_of_128_bits :
    completes .modmul (args [(0, 0xFFFFFFFFFFFFFFFF), (1, 0xFFFFFFFFFFFFFFFF), (2, 0xFFFFFFFFFFFFFFC5)] []) 0x02 [3364, 0, 0] noPoints 0x000 = true := by decide
theorem test_modmul_modulus_zero :
    completes .modmul (args [(0, 2), (1, 3)] []) 0x12 [0, 0, 0] noPoints 0x000 = true := by decide
theorem test_modmac_58_squared_plus_58 :
    completes .modmac (args [(0, 0xFFFFFFFFFFFFFFFF), (1, 0xFFFFFFFFFFFFFFFF), (2, 0xFFFFFFFFFFFFFFC5), (3, 0xFFFFFFFFFFFFFFFF)] []) 0x02 [3422, 0, 0] noPoints 0x000 = true := by decide
theorem test_modmac_modulus_one :
    completes .modmac (args [(0, 2), (1, 3), (2, 1), (3, 4)] []) 0x12 [0, 0, 0] noPoints 0x000 = true := by decide
theorem test_modexp_4_to_13_mod_497 :
    completes .modexp (args [(0, 4), (1, 13), (2, 497)] []) 0x02 [445, 0, 0] noPoints 0x000 = true := by decide
theorem test_modexp_zero_to_zero :
    completes .modexp (args [(2, 5)] []) 0x02 [1, 0, 0] noPoints 0x000 = true := by decide
theorem test_xgcd_negative_x :
    completes .xgcd (args [(0, 240), (1, 46)] []) 0x02 [2, 9, 47] noPoints 0x100 = true := by decide
theorem test_xgcd_negative_y :
    completes .xgcd (args [(0, 3), (1, 11)] []) 0x02 [1, 4, 1] noPoints 0x200 = true := by decide
theorem test_modinv_argument_above_modulus :
    completes .modinv (args [(0, 10), (1, 7)] []) 0x02 [5, 0, 0] noPoints 0x000 = true := by decide
theorem test_modinv_no_inverse :
    completes .modinv (args [(0, 6), (1, 9)] []) 0x42 [0, 0, 0] noPoints 0x000 = true := by decide
theorem test_rsaKeygen_3233 :
    completes .rsaKeygen (args [(0, 61), (1, 53), (2, 17)] []) 0x02 [3233, 2753, 0] noPoints 0x000 = true := by decide
theorem test_rsaKeygen_product_too_wide :
    completes .rsaKeygen (args [(0, 0x100000000), (1, 0x100000000), (2, 3)] []) 0x12 [0, 0, 0] noPoints 0x000 = true := by decide
theorem test_rsaEncrypt_message_above_n :
    completes .rsaEncrypt (args [(0, 4467), (1, 17), (2, 3233)] []) 0x02 [2183, 0, 0] noPoints 0x000 = true := by decide
theorem test_rsaEncrypt_n_one :
    completes .rsaEncrypt (args [(0, 1234), (1, 17), (2, 1)] []) 0x12 [0, 0, 0] noPoints 0x000 = true := by decide
theorem test_rsaDecrypt_1234 :
    completes .rsaDecrypt (args [(0, 2183), (1, 2753), (2, 3233)] []) 0x02 [1234, 0, 0] noPoints 0x000 = true := by decide
theorem test_rsaSign_1512 :
    completes .rsaSign (args [(0, 1234), (1, 2753), (2, 3233)] []) 0x02 [1512, 0, 0] noPoints 0x000 = true := by decide
theorem test_rsaVerify_recovers :
    completes .rsaVerify (args [(0, 1512), (1, 17), (2, 3233)] []) 0x02 [1234, 0, 0] noPoints 0x000 = true := by decide
theorem test_rsaVerify_compares_nothing :
    completes .rsaVerify (args [(0, 1513), (1, 17), (2, 3233)] []) 0x02 [2601, 0, 0] noPoints 0x000 = true := by decide
theorem test_dhPubkey_394 :
    completes .dhPubkey (args [(0, 467), (2, 2), (3, 228)] []) 0x02 [394, 0, 0] noPoints 0x000 = true := by decide
theorem test_dhPubkey_warns_at_p_minus_1 :
    completes .dhPubkey (args [(0, 467), (2, 2), (3, 466)] []) 0x06 [1, 0, 0] noPoints 0x000 = true := by decide
theorem test_dhShared_206 :
    completes .dhShared (args [(0, 467), (3, 228), (4, 313)] []) 0x02 [206, 0, 0] noPoints 0x000 = true := by decide
theorem test_dhShared_warning_and_rejection :
    completes .dhShared (args [(0, 467)] []) 0x16 [0, 0, 0] noPoints 0x000 = true := by decide
theorem test_egKeygen_132 :
    completes .egKeygen (args [(0, 467), (2, 2), (3, 127)] []) 0x02 [132, 0, 0] noPoints 0x000 = true := by decide
theorem test_egKeygen_p_zero :
    completes .egKeygen (args [(2, 2), (3, 127)] []) 0x12 [0, 0, 0] noPoints 0x000 = true := by decide
theorem test_egEncrypt_29_375 :
    completes .egEncrypt (args [(0, 467), (2, 2), (4, 132), (5, 100), (6, 213)] []) 0x02 [29, 375, 0] noPoints 0x000 = true := by decide
theorem test_egEncrypt_k_zero :
    completes .egEncrypt (args [(0, 467), (2, 2), (4, 132), (5, 100)] []) 0x02 [1, 100, 0] noPoints 0x000 = true := by decide
theorem test_egDecrypt_100 :
    completes .egDecrypt (args [(0, 467), (3, 127), (7, 29), (8, 375)] []) 0x02 [100, 0, 0] noPoints 0x000 = true := by decide
theorem test_egDecrypt_no_inverse :
    completes .egDecrypt (args [(0, 467), (3, 127), (7, 467), (8, 375)] []) 0x12 [0, 0, 0] noPoints 0x000 = true := by decide
theorem test_egSign_29_51 :
    completes .egSign (args [(0, 467), (2, 2), (3, 127), (5, 100), (6, 213)] []) 0x02 [29, 51, 0] noPoints 0x000 = true := by decide
theorem test_egSign_even_k :
    completes .egSign (args [(0, 467), (2, 2), (3, 127), (5, 100), (6, 2)] []) 0x22 [0, 0, 0] noPoints 0x000 = true := by decide
theorem test_egVerify_s_not_range_checked :
    completes .egVerify (args [(0, 467), (2, 2), (4, 132), (5, 100), (7, 29), (8, 517)] []) 0x02 [1, 0, 0] noPoints 0x000 = true := by decide
theorem test_egVerify_r_equal_p :
    completes .egVerify (args [(0, 467), (2, 2), (4, 132), (5, 100), (7, 467), (8, 51)] []) 0x32 [0, 0, 0] noPoints 0x000 = true := by decide
theorem test_dsaKeygen_x_q_minus_1 :
    completes .dsaKeygen (args [(0, 283), (1, 47), (2, 64), (3, 46)] []) 0x02 [199, 0, 0] noPoints 0x000 = true := by decide
theorem test_dsaKeygen_x_q :
    completes .dsaKeygen (args [(0, 283), (1, 47), (2, 64), (3, 47)] []) 0x12 [0, 0, 0] noPoints 0x000 = true := by decide
theorem test_dsaSign_14_46 :
    completes .dsaSign (args [(0, 283), (1, 47), (2, 64), (3, 15), (5, 100), (6, 19)] []) 0x02 [14, 46, 0] noPoints 0x000 = true := by decide
theorem test_dsaSign_s_zero :
    completes .dsaSign (args [(0, 283), (1, 47), (2, 64), (3, 15), (5, 25), (6, 19)] []) 0x22 [0, 0, 0] noPoints 0x000 = true := by decide
theorem test_dsaVerify_accepts :
    completes .dsaVerify (args [(0, 283), (1, 47), (2, 64), (4, 230), (5, 100), (7, 14), (8, 46)] []) 0x02 [1, 0, 0] noPoints 0x000 = true := by decide
theorem test_dsaVerify_s_above_q :
    completes .dsaVerify (args [(0, 283), (1, 47), (2, 64), (4, 230), (5, 100), (7, 14), (8, 93)] []) 0x32 [0, 0, 0] noPoints 0x000 = true := by decide
theorem test_ecOncurve_unreduced_x :
    completes .ecOncurve (args [(0, 17), (1, 2), (2, 2), (3, 19)] [(0, .affine 22 1)]) 0x02 [1, 0, 0] noPoints 0x000 = true := by decide
theorem test_ecOncurve_no_is_ok :
    completes .ecOncurve (args [(0, 17), (1, 2), (2, 2), (3, 19)] [(0, .affine 5 2)]) 0x02 [0, 0, 0] noPoints 0x000 = true := by decide
theorem test_ecPadd_doubling :
    completes .ecPadd (args [(0, 17), (1, 2), (2, 2), (3, 19)] [(0, .affine 5 1), (1, .affine 5 1)]) 0x02 [0, 0, 0] [⟨6, 3, false⟩, ⟨0, 0, false⟩] 0x000 = true := by decide
theorem test_ecPadd_composite_p :
    completes .ecPadd (args [(0, 15), (1, 2)] [(0, .affine 1 1), (1, .affine 4 2)]) 0x02 [0, 0, 0] [⟨0, 0, true⟩, ⟨0, 0, false⟩] 0x001 = true := by decide
theorem test_ecPneg_y_above_p :
    completes .ecPneg (args [(0, 17), (1, 2), (2, 2), (3, 19)] [(0, .affine 5 18)]) 0x02 [0, 0, 0] [⟨5, 16, false⟩, ⟨0, 0, false⟩] 0x000 = true := by decide
theorem test_ecPneg_infinity :
    completes .ecPneg (args [(0, 17), (1, 2), (2, 2), (3, 19)] [(0, .infinity)]) 0x02 [0, 0, 0] [⟨0, 0, true⟩, ⟨0, 0, false⟩] 0x001 = true := by decide
theorem test_ecPmul_18G :
    completes .ecPmul (args [(0, 17), (1, 2), (2, 2), (3, 19), (6, 18)] [(0, .affine 5 1)]) 0x02 [0, 0, 0] [⟨5, 16, false⟩, ⟨0, 0, false⟩] 0x000 = true := by decide
theorem test_ecPmul_order :
    completes .ecPmul (args [(0, 17), (1, 2), (2, 2), (3, 19), (6, 19)] [(0, .affine 5 1)]) 0x02 [0, 0, 0] [⟨0, 0, true⟩, ⟨0, 0, false⟩] 0x001 = true := by decide
theorem test_ecKeygen_7G :
    completes .ecKeygen (args [(0, 17), (1, 2), (2, 2), (3, 19), (4, 7)] [(0, .affine 5 1)]) 0x02 [0, 0, 0] [⟨0, 6, false⟩, ⟨0, 0, false⟩] 0x000 = true := by decide
theorem test_ecKeygen_off_curve :
    completes .ecKeygen (args [(0, 17), (1, 2), (2, 2), (3, 19), (4, 7)] [(0, .affine 5 2)]) 0x12 [0, 0, 0] noPoints 0x000 = true := by decide
theorem test_ecdsaSign_7_4 :
    completes .ecdsaSign (args [(0, 17), (1, 2), (2, 2), (3, 19), (4, 7), (5, 10), (6, 10)] [(0, .affine 5 1)]) 0x02 [7, 4, 0] noPoints 0x000 = true := by decide
theorem test_ecdsaSign_infinity :
    completes .ecdsaSign (args [(0, 17), (1, 2), (2, 2), (3, 19), (4, 7), (5, 10), (6, 19)] [(0, .affine 5 1)]) 0x22 [0, 0, 0] noPoints 0x000 = true := by decide
theorem test_ecdsaVerify_s_above_n :
    completes .ecdsaVerify (args [(0, 17), (1, 2), (2, 2), (3, 19), (5, 10), (7, 7), (8, 23)] [(0, .affine 5 1), (1, .affine 0 6)]) 0x02 [1, 0, 0] noPoints 0x000 = true := by decide
theorem test_ecdsaVerify_r_above_n :
    completes .ecdsaVerify (args [(0, 17), (1, 2), (2, 2), (3, 19), (5, 10), (7, 26), (8, 4)] [(0, .affine 5 1), (1, .affine 0 6)]) 0x32 [0, 0, 0] noPoints 0x000 = true := by decide
theorem test_ecegEncrypt_two_points :
    completes .ecegEncrypt (args [(0, 17), (1, 2), (2, 2), (3, 19), (6, 3)] [(0, .affine 5 1), (1, .affine 0 6), (2, .affine 0 6)]) 0x02 [0, 0, 0] [⟨10, 6, false⟩, ⟨7, 6, false⟩] 0x000 = true := by decide
theorem test_ecegEncrypt_second_infinity :
    completes .ecegEncrypt (args [(0, 17), (1, 2), (2, 2), (3, 19), (6, 3)] [(0, .affine 5 1), (1, .affine 0 6), (2, .affine 6 14)]) 0x02 [0, 0, 0] [⟨10, 6, false⟩, ⟨0, 0, true⟩] 0x002 = true := by decide
theorem test_ecegDecrypt_round_trip :
    completes .ecegDecrypt (args [(0, 17), (1, 2), (2, 2), (3, 19), (4, 7)] [(0, .affine 10 6), (1, .affine 7 6)]) 0x02 [0, 0, 0] [⟨0, 6, false⟩, ⟨0, 0, false⟩] 0x000 = true := by decide
theorem test_ecegDecrypt_message_infinity :
    completes .ecegDecrypt (args [(0, 17), (1, 2), (2, 2), (3, 19), (4, 7)] [(0, .affine 10 6), (1, .affine 6 3)]) 0x02 [0, 0, 0] [⟨0, 0, true⟩, ⟨0, 0, false⟩] 0x001 = true := by decide

/-- Same operands, `NW = 1`: the product needs more than 32 bits (spec/96_test_vectors_schemes.md section 1). -/
theorem test_rsaKeygen_one_word_core :
    completes .rsaKeygen { args [(0, 0x10001), (1, 0x10003), (2, 17)] [] with nwIndex := 0 } 0x12 [0, 0, 0] noPoints 0 =
      true := by decide

/-! ### Host accesses, from spec/97_test_programs.md and the rules -/

/-- What a check finds in the state after one step; a stop fails it. -/
def afterStep (s : State) (check : State → Bool) : Bool :=
  match step s with
  | .next t => check t
  | .fault _ => false
  | .refused _ => false

/-- A core with `MODADD` of 3, 5, 7 in flight and one move to come. -/
def busyCore (e : Event) : State :=
  { (args [(0, 3), (1, 5), (2, 7)] []).launch 0x10 with script := [e] }

theorem test_reset_reads_id : State.reset.readWord 0x000 = 0x4D450102#32 := by decide
theorem test_word_of_a_wide_scalar : (args [(8, 0x0123456789ABCDEF)] []).readWord 0x604 = 0x01234567#32 := by decide
theorem test_word_above_NW_reads_zero : (args [(8, 0x0123456789ABCDEF)] []).readWord 0x608 = 0#32 := by decide
theorem test_byte_of_a_word : (args [(0, 0x0123456789ABCDEF)] []).windowByte 0x405 = 0x45#8 := by decide
theorem test_write_of_a_high_word :
    afterStep { args [(0, 5)] [] with script := [wr 0x404 0x80000001] } (fun t => t.a.get 0 == 0x8000000100000005) = true := by
  decide
theorem test_guarded_write_while_busy :
    afterStep (busyCore (wr 0x400 9)) (fun t => t.statusWord == 0x09 && t.A 0 == 3 && t.cmdLatch == 0x10) = true := by decide
theorem test_second_launch_is_dropped :
    afterStep (busyCore (wr 0x00C 0x12)) (fun t => t.statusWord == 0x09 && t.cmdLatch == 0x10) = true := by decide
theorem test_control_is_not_guarded :
    afterStep (busyCore (wr 0x004 1)) (fun t => t.ie && t.statusWord == 0x01) = true := by decide
theorem test_status_write_one_to_clear :
    afterStep { State.reset with ie := true, done := true, werr := true, script := [wr 0x008 0x0A] }
      (fun t => t.statusWord == 0 && !t.irq) = true := by decide
theorem test_completion_raises_irq : afterStep { busyCore .engine with ie := true } (fun t => t.irq && t.statusWord == 0x02) = true := by
  decide
theorem test_reset_abandons_the_command :
    afterStep (busyCore .reset) (fun t => t.statusWord == 0 && t.cmdLatch == 0 && t.A 0 == 0 && t.script == []) = true := by decide
theorem test_illegal_word : afterStep (State.reset.launch 0x00000017) (fun t => t.statusWord == 0x52) = true := by decide
theorem test_read_answers_the_word :
    afterStep { State.reset with script := [rd 0x000] } (fun t => t.readLog == [0x4D450102]) = true := by decide

/-! ### Witnesses: for each clause of each statement with hypotheses, values that meet them together -/

theorem witness_busyStep :
    (busyCore .engine).busy = true ∧ decode (busyCore .engine).cmdLatch = .ok .modadd ∧
    (busyCore .engine).script = .engine :: [] ∧ { busyCore .engine with script := [] }.script = [] := by decide

theorem witness_illegalWord :
    State.reset.busy = false ∧ State.reset.script = [] ∧ (0x00000110#32).toNat / 256 ≠ 0 ∧
    (0x00000017#32).toNat % 256 ∉
      [0x10, 0x11, 0x12, 0x13, 0x14, 0x15, 0x16, 0x20, 0x21, 0x22, 0x23, 0x24, 0x30, 0x31, 0x40, 0x41, 0x42, 0x43, 0x44,
        0x50, 0x51, 0x52, 0x60, 0x61, 0x62, 0x63, 0x64, 0x65, 0x66, 0x67, 0x68] := by
  decide

theorem witness_idle : State.reset.busy = false := by decide

theorem witness_completion :
    ({} : CmdOutcome).pr0 = none ∧ ({ pr0 := some .infinity } : CmdOutcome).pr0 = some .infinity ∧
    ({ pr0 := some (.affine 5 1) } : CmdOutcome).pr0 = some (.affine 5 1) ∧ ({} : CmdOutcome).pr1 = none ∧
    ({ pr1 := some .infinity } : CmdOutcome).pr1 = some .infinity ∧
    ({ pr1 := some (.affine 5 1) } : CmdOutcome).pr1 = some (.affine 5 1) := by decide

theorem witness_failed : ∃ t, exec .modadd State.reset = .next t ∧ t.rc ≠ .ok := ⟨_, rfl, by decide⟩

theorem witness_failed_with_warning : ∃ t, exec .dhShared (args [(0, 467)] []) = .next t ∧ t.rc ≠ .ok ∧ t.warn = true :=
  ⟨_, rfl, by decide⟩

theorem witness_frame_offsets :
    (0x00C ≠ 0x008 ∧ 0x00C ≠ 0x014 ∧ ¬(0xC00 ≤ 0x00C ∧ 0x00C < 0xCC0) ∧ ¬(0xE00 ≤ 0x00C ∧ 0x00C < 0xF00)) ∧
    (0xCC0 ≠ 0x008 ∧ 0xCC0 ≠ 0x014 ∧ ¬(0xC00 ≤ 0xCC0 ∧ 0xCC0 < 0xCC0) ∧ ¬(0xE00 ≤ 0xCC0 ∧ 0xCC0 < 0xF00)) := by decide

/-- Two states that differ in every register `MODINV` does not read, in the latch and in the width. -/
theorem witness_sameArguments :
    State.SameArguments .modinv (args [(0, 3), (1, 11)] [])
      { args [(0, 3), (1, 11), (2, 5)] [(0, .affine 1 2)] with cmdLatch := 7, nwIndex := 3, r := #v[1, 2, 3] } ∧
    (∃ t, exec .modinv (args [(0, 3), (1, 11)] []) = .next t) ∧
    (∃ t, exec .modinv
      { args [(0, 3), (1, 11), (2, 5)] [(0, .affine 1 2)] with cmdLatch := 7, nwIndex := 3, r := #v[1, 2, 3] } = .next t) ∧
    (2 : Fin 3) ∉ scalarResults .modinv ∧ (1 : Fin 2) ∉ pointResults .ecPadd :=
  ⟨by decide, ⟨_, rfl⟩, ⟨_, rfl⟩, by decide, by decide⟩

theorem witness_resultCodes : ∃ t, exec .xgcd (args [(0, 240), (1, 46)] []) = .next t ∧ t.xneg = true := ⟨_, rfl, by decide⟩

theorem witness_ySign : ∃ t, exec .xgcd (args [(0, 46), (1, 240)] []) = .next t ∧ t.yneg = true := ⟨_, rfl, by decide⟩

theorem witness_dhWarns : ∃ t, exec .dhPubkey (args [(0, 467), (2, 2)] []) = .next t ∧ t.warn = true := ⟨_, rfl, by decide⟩

theorem witness_verifiers :
    (∃ t, exec .egVerify (args [(0, 467), (2, 2), (4, 132), (5, 100), (7, 29), (8, 51)] []) = .next t ∧ t.rc = .ok) ∧
    (∃ t, exec .dsaVerify (args [(0, 283), (1, 47)] []) = .next t ∧ t.rc ≠ .ok) ∧
    (∃ t, exec .ecdsaVerify State.reset = .next t ∧ t.rc ≠ .ok) :=
  ⟨⟨_, rfl, by decide⟩, ⟨_, rfl, by decide⟩, ⟨_, rfl, by decide⟩⟩

theorem witness_resetMove : (busyCore .reset).script = .reset :: [] := by decide

theorem witness_transactions :
    (4092 < 4096 ∧ 4092 % 4 = 0) ∧ (busyCore (.read 4092 4)).script = .read 4092 4 :: [] ∧
    (busyCore (.write 0 4 5)).script = .write 0 4 5 :: [] := by decide

theorem witness_readValues :
    (0 < State.reset.NW ∧ 15 < 16 ∧ ¬ 15 < State.reset.NW) ∧
    (∀ off ∈ [0x018, 0x3FC, 0x640, 0x7FC, 0x980, 0xBFC, 0xCC0, 0xDFC, 0xF00, 0xFFC], off % 4 = 0 ∧ off < 4096 ∧
      ((0x018 ≤ off ∧ off < 0x400) ∨ (0x640 ≤ off ∧ off < 0x800) ∨ (0x980 ≤ off ∧ off < 0xC00) ∨
        (0xCC0 ≤ off ∧ off < 0xE00) ∨ 0xF00 ≤ off)) := by decide

theorem witness_ignoredWrites :
    State.reset.busy = false ∧ (State.reset.NW ≤ 2 ∧ 2 < 16) ∧ (State.reset.NW ≤ 15 ∧ 15 < 16) ∧
    (∀ off ∈ [0x018, 0x3FC, 0x640, 0x7FC, 0x980, 0xFFC],
      (0x018 ≤ off ∧ off < 0x400) ∨ (0x640 ≤ off ∧ off < 0x800) ∨ 0x980 ≤ off) := by decide

theorem witness_argumentWrite :
    State.reset.busy = false ∧ 0 < State.reset.NW ∧ 1 < State.reset.NW ∧
    (∃ i : Fin 9, 0x604 = 0x400 + 0x40 * i.val + 4 * 1) ∧ (∃ i : Fin 3, 0x800 = 0x800 + 0x80 * i.val + 4 * 0) ∧
    (∃ i : Fin 3, 0x944 = 0x840 + 0x80 * i.val + 4 * 1) ∧ (0x600 % 4 = 0 ∧ 0x600 ≠ 0x604) := by decide

theorem witness_guarded :
    (busyCore .engine).busy = true ∧ 1 < (busyCore .engine).NW ∧
    (∃ t, step (busyCore (wr 0x400 9)) = .next t ∧ (busyCore (wr 0x400 9)).werr = false ∧ t.werr = true) ∧
    (∃ t, step { State.reset with werr := true, script := [wr 0x008 8] } = .next t ∧ t.werr = false) ∧
    (∃ t, step { State.reset with werr := true, script := [.reset] } = .next t ∧ t.werr = false) :=
  ⟨by decide, by decide, ⟨_, rfl, by decide⟩, ⟨_, rfl, by decide⟩, ⟨_, rfl, by decide⟩⟩

theorem witness_load :
    State.reset.busy = false ∧ State.reset.a.get 8 < 2 ^ State.reset.W ∧ 2 ^ 64 - 1 < 2 ^ State.reset.W ∧
    { State.reset with script := lds State.reset.NW (.a 8) (2 ^ 64 - 1) }.script =
      lds State.reset.NW (.a 8) (2 ^ 64 - 1) ++ [] := by decide

theorem witness_portStops :
    (busyCore (.read 4093 4)).script = .read 4093 4 :: [] ∧ (4093 < 4096 ∧ 4093 % 4 ≠ 0) ∧
    (busyCore (.write 8 2 0)).script = .write 8 2 0 :: [] ∧ (8 < 4096 ∧ (2 : Nat) ≠ 4) ∧
    (busyCore (.read 4096 4)).script = .read 4096 4 :: [] ∧ 4096 ≤ 4096 := by decide

theorem witness_supportedScript : (busyCore (.write 4092 4 0)).SupportedScript ∧ State.reset.SupportedScript := by decide

theorem witness_busyFreezes :
    (∃ t, step (busyCore (rd 0x008)) = .next t) ∧ (busyCore (rd 0x008)).busy = true ∧ (busyCore (rd 0x008)).script ≠ [] ∧
    (busyCore (rd 0x008)).script.head? ≠ some .engine ∧ (busyCore (rd 0x008)).script.head? ≠ some .reset :=
  ⟨⟨_, rfl⟩, by decide, by decide, by decide, by decide⟩

theorem witness_idleKeepsResults :
    (∃ t, step State.reset = .next t) ∧ State.reset.busy = false ∧ State.reset.script.head? ≠ some .reset :=
  ⟨⟨_, rfl⟩, by decide, by decide⟩

theorem witness_invariants :
    (busyCore .engine).Coherent ∧ (busyCore .engine).FitsWidth ∧ (∃ t, step (busyCore .engine) = .next t) :=
  ⟨by decide, by decide, ⟨_, rfl⟩⟩

theorem witness_modulus : 2 ≤ (args [(2, 2)] []).A 2 ∧ (args [(2, 1)] []).A 2 < 2 := by decide

theorem witness_xgcdRecurrence : 0 < 1 ∧ xgcd 1 (0 % 1) = (1, 1, 0) ∧ 0 < 46 ∧ xgcd 46 (240 % 46) = (2, 2, -9) := by decide

theorem witness_xgcdSpecial : (0 < 1) ∧ xgcd 0 1 = (1, 0, 1) ∧ xgcd 1 1 = (1, 0, 1) := by decide

theorem witness_xgcdCommand : xgcd ((args [(0, 240), (1, 46)] []).A 0) ((args [(0, 240), (1, 46)] []).A 1) = (2, -9, 47) := by decide

theorem witness_modinv :
    (2 ≤ (args [(0, 1), (1, 2)] []).A 1 ∧ Nat.gcd ((args [(0, 1), (1, 2)] []).A 0) ((args [(0, 1), (1, 2)] []).A 1) = 1) ∧
    (2 ≤ (args [(1, 2)] []).A 1 ∧ Nat.gcd ((args [(1, 2)] []).A 0) ((args [(1, 2)] []).A 1) ≠ 1) ∧
    (args [(1, 1)] []).A 1 < 2 := by decide

theorem witness_kernelProperties :
    ((args [(2, 2)] []).A 1 = 0 ∧ 2 ≤ (args [(2, 2)] []).A 2) ∧
    (∃ t, exec .modinv (args [(0, 3), (1, 11)] []) = .next t ∧ t.rc = .ok ∧
      (args [(0, 3), (1, 4), (2, 11)] []).A 0 = (args [(0, 3), (1, 11)] []).A 0 ∧
      (args [(0, 3), (1, 4), (2, 11)] []).A 1 = t.r.get 0 ∧
      (args [(0, 3), (1, 4), (2, 11)] []).A 2 = (args [(0, 3), (1, 11)] []).A 1) :=
  ⟨by decide, ⟨_, rfl, by decide⟩⟩

/-- The success clause of `RSA_KEYGEN` at its least key, and operands for each cause of failure. -/
theorem witness_rsaKeygen :
    (∃ s : State, 2 ≤ s.A 0 ∧ 2 ≤ s.A 1 ∧ s.A 0 * s.A 1 < 2 ^ s.W ∧ 1 < s.A 2 ∧ s.A 2 < (s.A 0 - 1) * (s.A 1 - 1) ∧
      Nat.gcd (s.A 2) ((s.A 0 - 1) * (s.A 1 - 1)) = 1) ∧
    (∃ s : State, s.A 0 < 2) ∧ (∃ s : State, s.A 1 < 2) ∧ (∃ s : State, 2 ^ s.W ≤ s.A 0 * s.A 1) ∧ (∃ s : State, s.A 2 ≤ 1) ∧
    (∃ s : State, (s.A 0 - 1) * (s.A 1 - 1) ≤ s.A 2) ∧ (∃ s : State, Nat.gcd (s.A 2) ((s.A 0 - 1) * (s.A 1 - 1)) ≠ 1) :=
  ⟨⟨args [(0, 3), (1, 5), (2, 3)] [], by decide⟩, ⟨args [(0, 1)] [], by decide⟩, ⟨args [(1, 1)] [], by decide⟩,
    ⟨args [(0, 2 ^ 32), (1, 2 ^ 32)] [], by decide⟩, ⟨args [(2, 1)] [], by decide⟩,
    ⟨args [(0, 3), (1, 5), (2, 8)] [], by decide⟩, ⟨args [(0, 3), (1, 5), (2, 2)] [], by decide⟩⟩

theorem witness_rsaRoundTrips :
    ∃ k' v', (3 : Nat).Prime ∧ (5 : Nat).Prime ∧ 3 ≠ 5 ∧
      exec .rsaKeygen (args [(0, 3), (1, 5), (2, 3)] []) = .next k' ∧ k'.rc = .ok ∧ k'.r.get 0 = 15 ∧ k'.r.get 1 = 3 ∧
      (args [(0, 14), (1, 3), (2, 15)] []).A 0 < k'.r.get 0 ∧
      exec .rsaEncrypt (args [(0, 14), (1, 3), (2, 15)] []) = .next v' ∧
      (args [(0, 14), (1, 3), (2, 15)] []).A 0 = v'.r.get 0 :=
  ⟨_, _, by decide, by decide, by decide, rfl, by decide, by decide, by decide, by decide, rfl, by decide⟩

/-- The same for the pair of signing and verifying, with different exponents: `29 = 2^7 mod 33` is signed with `d = 7`
and verified with `e = 3`. -/
theorem witness_rsaSignatureRoundTrip :
    ∃ k' v', (3 : Nat).Prime ∧ (11 : Nat).Prime ∧ 3 ≠ 11 ∧
      exec .rsaKeygen (args [(0, 3), (1, 11), (2, 3)] []) = .next k' ∧ k'.rc = .ok ∧ k'.r.get 0 = 33 ∧ k'.r.get 1 = 7 ∧
      (args [(0, 2), (1, 7), (2, 33)] []).A 0 < k'.r.get 0 ∧
      (args [(0, 2), (1, 7), (2, 33)] []).A 1 = k'.r.get 1 ∧ (args [(0, 2), (1, 7), (2, 33)] []).A 2 = k'.r.get 0 ∧
      exec .rsaSign (args [(0, 2), (1, 7), (2, 33)] []) = .next v' ∧
      (args [(0, 29), (1, 3), (2, 33)] []).A 0 = v'.r.get 0 ∧ (args [(0, 29), (1, 3), (2, 33)] []).A 1 = 3 ∧
      (args [(0, 29), (1, 3), (2, 33)] []).A 2 = k'.r.get 0 :=
  ⟨_, _, by decide, by decide, by decide, rfl, by decide, by decide, by decide, by decide, by decide, by decide, rfl,
    by decide, by decide, by decide⟩

/-- Both values of the warning, at `a = 0`, `p - 2` and `p - 1`, with `p = 2` and the boundary values of the remote key. -/
theorem witness_dh :
    (∃ s : State, (true = true ↔ (s.A 3 = 0 ∨ s.A 0 < s.A 3 + 2)) ∧ 2 ≤ s.A 0 ∧ 1 ≤ s.A 4 ∧ s.A 4 < s.A 0) ∧
    (∃ s : State, (false = true ↔ (s.A 3 = 0 ∨ s.A 0 < s.A 3 + 2)) ∧ 2 ≤ s.A 0 ∧ 1 ≤ s.A 4 ∧ s.A 4 < s.A 0) ∧
    (∃ s : State, (true = true ↔ (s.A 3 = 0 ∨ s.A 0 < s.A 3 + 2)) ∧ 2 ≤ s.A 0 ∧ s.A 4 = 0) ∧
    (∃ s : State, (true = true ↔ (s.A 3 = 0 ∨ s.A 0 < s.A 3 + 2)) ∧ 2 ≤ s.A 0 ∧ s.A 0 ≤ s.A 4) ∧
    (∃ s : State, (true = true ↔ (s.A 3 = 0 ∨ s.A 0 < s.A 3 + 2)) ∧ s.A 0 < 2) :=
  ⟨⟨args [(0, 2), (4, 1)] [], by decide⟩, ⟨args [(0, 467), (3, 465), (4, 466)] [], by decide⟩,
    ⟨args [(0, 467), (3, 466)] [], by decide⟩, ⟨args [(0, 467), (3, 466), (4, 467)] [], by decide⟩,
    ⟨args [(0, 1)] [], by decide⟩⟩

theorem witness_dhAgree :
    ∃ sa' sb', exec .dhPubkey (args [(0, 23), (2, 5), (3, 6)] []) = .next sa' ∧
      exec .dhPubkey (args [(0, 23), (2, 5), (3, 15)] []) = .next sb' ∧
      (args [(0, 23), (3, 6), (4, 19)] []).A 4 = sb'.r.get 0 ∧ (args [(0, 23), (3, 15), (4, 8)] []).A 4 = sa'.r.get 0 ∧
      1 ≤ sb'.r.get 0 ∧ 1 ≤ sa'.r.get 0 :=
  ⟨_, _, rfl, rfl, by decide⟩

theorem witness_pAtLeastTwo : 2 ≤ (args [(0, 2)] []).A 0 ∧ (args [(0, 1)] []).A 0 < 2 := by decide

theorem witness_egDecrypt :
    (2 ≤ (args [(0, 7), (3, 2), (7, 3)] []).A 0 ∧
      (args [(0, 7), (3, 2), (7, 3)] []).A 7 ^ (args [(0, 7), (3, 2), (7, 3)] []).A 3 * 4 % 7 = 1) ∧
    (2 ≤ (args [(0, 2), (3, 1), (7, 2)] []).A 0 ∧
      Nat.gcd ((args [(0, 2), (3, 1), (7, 2)] []).A 7 ^ (args [(0, 2), (3, 1), (7, 2)] []).A 3) 2 ≠ 1) := by decide

/-- `p = 3` is the least modulus of the first two clauses; each cause of the degenerate outcome is shown. -/
theorem witness_egSign :
    (∃ s : State, 3 ≤ s.A 0 ∧ s.A 2 ^ s.A 6 % s.A 0 ≠ 0 ∧ s.A 6 * 1 % (s.A 0 - 1) = 1) ∧
    (∃ s : State, 3 ≤ s.A 0 ∧ s.A 2 ^ s.A 6 % s.A 0 = 0) ∧ (∃ s : State, 3 ≤ s.A 0 ∧ Nat.gcd (s.A 6) (s.A 0 - 1) ≠ 1) ∧
    (∃ s : State, s.A 0 < 3) :=
  ⟨⟨args [(0, 3), (2, 2), (6, 1)] [], by decide⟩, ⟨args [(0, 3), (2, 3), (6, 1)] [], by decide⟩,
    ⟨args [(0, 3), (6, 2)] [], by decide⟩, ⟨args [(0, 2)] [], by decide⟩⟩

theorem witness_egVerify :
    (∃ s : State, 2 ≤ s.A 0 ∧ 0 < s.A 7 ∧ s.A 7 < s.A 0 ∧ s.A 4 ^ s.A 7 * s.A 7 ^ s.A 8 % s.A 0 = s.A 2 ^ s.A 5 % s.A 0) ∧
    (∃ s : State, 2 ≤ s.A 0 ∧ s.A 7 = 0) ∧ (∃ s : State, 2 ≤ s.A 0 ∧ s.A 0 ≤ s.A 7) ∧
    (∃ s : State, 2 ≤ s.A 0 ∧ s.A 4 ^ s.A 7 * s.A 7 ^ s.A 8 % s.A 0 ≠ s.A 2 ^ s.A 5 % s.A 0) :=
  ⟨⟨args [(0, 467), (2, 2), (4, 132), (5, 100), (7, 29), (8, 51)] [], by decide⟩, ⟨args [(0, 2)] [], by decide⟩,
    ⟨args [(0, 2), (7, 2)] [], by decide⟩, ⟨args [(0, 467), (2, 2), (4, 132), (5, 101), (7, 29), (8, 51)] [], by decide⟩⟩

theorem witness_egRoundTrip :
    ∃ t, (7 : Nat).Prime ∧ 3 % 7 ≠ 0 ∧ (args [(0, 7), (2, 3), (4, 2), (5, 5), (6, 1)] []).A 4 = 3 ^ 2 % 7 ∧
      exec .egEncrypt (args [(0, 7), (2, 3), (4, 2), (5, 5), (6, 1)] []) = .next t ∧
      (args [(0, 7), (3, 2), (7, 3), (8, 3)] []).A 3 = 2 ∧ (args [(0, 7), (3, 2), (7, 3), (8, 3)] []).A 7 = t.r.get 0 ∧
      (args [(0, 7), (3, 2), (7, 3), (8, 3)] []).A 8 = t.r.get 1 :=
  ⟨_, by decide, by decide, by decide, rfl, by decide⟩

theorem witness_egSignatureVerifies :
    ∃ t, (7 : Nat).Prime ∧ exec .egSign (args [(0, 7), (2, 3), (3, 2), (5, 5), (6, 5)] []) = .next t ∧ t.rc = .ok ∧
      (args [(0, 7), (2, 3), (4, 2), (5, 5), (7, 5), (8, 5)] []).A 4 = 3 ^ 2 % 7 ∧
      (args [(0, 7), (2, 3), (4, 2), (5, 5), (7, 5), (8, 5)] []).A 7 = t.r.get 0 ∧
      (args [(0, 7), (2, 3), (4, 2), (5, 5), (7, 5), (8, 5)] []).A 8 = t.r.get 1 :=
  ⟨_, by decide, rfl, by decide⟩

theorem witness_dsaKeygen :
    (2 ≤ (args [(0, 2), (1, 2), (3, 1)] []).A 0 ∧ 0 < (args [(0, 2), (1, 2), (3, 1)] []).A 3 ∧
      (args [(0, 2), (1, 2), (3, 1)] []).A 3 < (args [(0, 2), (1, 2), (3, 1)] []).A 1) ∧
    (args [(0, 1)] []).A 0 < 2 ∧ (args [(0, 2)] []).A 3 = 0 ∧ (args [(1, 47), (3, 47)] []).A 1 ≤ (args [(1, 47), (3, 47)] []).A 3 := by
  decide

/-- The example group of spec/95_test_vectors.md section 4, with digests that give `s = 46` and `s = 0`, and a `k` for
each other degenerate outcome. -/
theorem witness_dsaSign :
    (∃ s : State, 2 ≤ s.A 0 ∧ 2 ≤ s.A 1 ∧ s.A 2 ^ s.A 6 % s.A 0 % s.A 1 ≠ 0 ∧ s.A 6 * 5 % s.A 1 = 1 ∧
      5 * (s.A 5 + s.A 3 * (s.A 2 ^ s.A 6 % s.A 0 % s.A 1)) % s.A 1 ≠ 0) ∧
    (∃ s : State, 2 ≤ s.A 0 ∧ 2 ≤ s.A 1 ∧ s.A 6 * 5 % s.A 1 = 1 ∧
      5 * (s.A 5 + s.A 3 * (s.A 2 ^ s.A 6 % s.A 0 % s.A 1)) % s.A 1 = 0) ∧
    (∃ s : State, 2 ≤ s.A 0 ∧ 2 ≤ s.A 1 ∧ s.A 2 ^ s.A 6 % s.A 0 % s.A 1 = 0) ∧
    (∃ s : State, 2 ≤ s.A 0 ∧ 2 ≤ s.A 1 ∧ Nat.gcd (s.A 6) (s.A 1) ≠ 1) ∧ (∃ s : State, s.A 0 < 2) ∧ (∃ s : State, s.A 1 < 2) :=
  ⟨⟨args [(0, 283), (1, 47), (2, 64), (3, 15), (5, 100), (6, 19)] [], by decide⟩,
    ⟨args [(0, 283), (1, 47), (2, 64), (3, 15), (5, 25), (6, 19)] [], by decide⟩,
    ⟨args [(0, 283), (1, 47), (2, 64), (6, 39)] [], by decide⟩, ⟨args [(0, 283), (1, 47), (6, 47)] [], by decide⟩,
    ⟨args [(0, 1)] [], by decide⟩, ⟨args [(1, 1)] [], by decide⟩⟩

theorem witness_dsaVerify :
    (∃ s : State, 2 ≤ s.A 0 ∧ 2 ≤ s.A 1 ∧ 0 < s.A 7 ∧ s.A 7 < s.A 1 ∧ 0 < s.A 8 ∧ s.A 8 < s.A 1 ∧ s.A 8 * 46 % s.A 1 = 1 ∧
      s.A 2 ^ (s.A 5 * 46 % s.A 1) * s.A 4 ^ (s.A 7 * 46 % s.A 1) % s.A 0 % s.A 1 = s.A 7) ∧
    (∃ s : State, 2 ≤ s.A 0 ∧ 2 ≤ s.A 1 ∧ 0 < s.A 7 ∧ s.A 7 < s.A 1 ∧ 0 < s.A 8 ∧ s.A 8 < s.A 1 ∧ s.A 8 * 46 % s.A 1 = 1 ∧
      s.A 2 ^ (s.A 5 * 46 % s.A 1) * s.A 4 ^ (s.A 7 * 46 % s.A 1) % s.A 0 % s.A 1 ≠ s.A 7) ∧
    (∃ s : State, 2 ≤ s.A 0 ∧ 2 ≤ s.A 1 ∧ s.A 7 = 0) ∧ (∃ s : State, 2 ≤ s.A 0 ∧ 2 ≤ s.A 1 ∧ s.A 1 ≤ s.A 7) ∧
    (∃ s : State, 2 ≤ s.A 0 ∧ 2 ≤ s.A 1 ∧ s.A 8 = 0) ∧ (∃ s : State, 2 ≤ s.A 0 ∧ 2 ≤ s.A 1 ∧ s.A 1 ≤ s.A 8) ∧
    (∃ s : State, 2 ≤ s.A 0 ∧ 2 ≤ s.A 1 ∧ Nat.gcd (s.A 8) (s.A 1) ≠ 1) :=
  ⟨⟨args [(0, 283), (1, 47), (2, 64), (4, 230), (5, 100), (7, 14), (8, 46)] [], by decide⟩,
    ⟨args [(0, 283), (1, 47), (2, 64), (4, 230), (5, 101), (7, 14), (8, 46)] [], by decide⟩,
    ⟨args [(0, 2), (1, 2), (8, 1)] [], by decide⟩, ⟨args [(0, 2), (1, 2), (7, 2), (8, 1)] [], by decide⟩,
    ⟨args [(0, 2), (1, 2), (7, 1)] [], by decide⟩, ⟨args [(0, 2), (1, 2), (7, 1), (8, 2)] [], by decide⟩,
    ⟨args [(0, 2), (1, 4), (7, 1), (8, 2)] [], by decide⟩⟩

theorem witness_dsaSignaturesVerify :
    ∃ t, (47 : Nat).Prime ∧ (args [(0, 283), (1, 47), (2, 64), (3, 15), (5, 100), (6, 19)] []).A 1 = 47 ∧ 64 ^ 47 % 283 = 1 ∧
      exec .dsaSign (args [(0, 283), (1, 47), (2, 64), (3, 15), (5, 100), (6, 19)] []) = .next t ∧ t.rc = .ok ∧
      (args [(0, 283), (1, 47), (2, 64), (4, 230), (5, 100), (7, 14), (8, 46)] []).A 4 = 64 ^ 15 % 283 ∧
      (args [(0, 283), (1, 47), (2, 64), (4, 230), (5, 100), (7, 14), (8, 46)] []).A 7 = t.r.get 0 ∧
      (args [(0, 283), (1, 47), (2, 64), (4, 230), (5, 100), (7, 14), (8, 46)] []).A 8 = t.r.get 1 :=
  ⟨_, by decide, by decide, by decide, rfl, by decide⟩

theorem witness_ecdsaSignature :
    ∃ t, exec .ecdsaSign (args [(0, 17), (1, 2), (2, 2), (3, 19), (4, 7), (5, 10), (6, 10)] [(0, .affine 5 1)]) = .next t ∧
      t.rc = .ok :=
  ⟨_, rfl, by decide⟩

theorem witness_points :
    (args [] [(0, .infinity)]).P 0 = .infinity ∧ (args [] [(1, .infinity)]).P 1 = .infinity ∧
    (args [] [(0, .affine 5 1)]).P 0 = .affine 5 1 ∧ (args [] [(1, .affine 6 3)]).P 1 = .affine 6 3 := by decide

/-- Opposite points; a doubling and a chord modulo 17 with their slopes; a denominator without inverse modulo 15. -/
theorem witness_ecPadd :
    (∃ s : State, 2 ≤ s.A 0 ∧ s.P 0 = .affine 5 1 ∧ s.P 1 = .affine 5 16 ∧ (1 + 16) % s.A 0 = 0) ∧
    (∃ s : State, 2 ≤ s.A 0 ∧ s.P 0 = .affine 5 1 ∧ s.P 1 = .affine 5 1 ∧ (1 + 1) % s.A 0 ≠ 0 ∧
      3 * 5 * 5 + (s.A 1 : Int) = 77 ∧ (2 * 1 : Int) * 9 % s.A 0 = 1 ∧ (77 * 9 % s.A 0 : Int) = 13 ∧
      ((13 * 13 - 5 - 5) % s.A 0 : Int) = 6) ∧
    (∃ s : State, 2 ≤ s.A 0 ∧ s.P 0 = .affine 5 1 ∧ s.P 1 = .affine 6 3 ∧ (6 - 5 : Int) * 1 % s.A 0 = 1 ∧
      ((3 - 1) * 1 % s.A 0 : Int) = 2 ∧ ((2 * 2 - 5 - 6) % s.A 0 : Int) = 10) ∧
    (∃ s : State, 2 ≤ s.A 0 ∧ s.P 0 = .affine 1 1 ∧ s.P 1 = .affine 4 2 ∧ Int.gcd (4 - 1) (s.A 0) ≠ 1) :=
  ⟨⟨args [(0, 17)] [(0, .affine 5 1), (1, .affine 5 16)], by decide⟩,
    ⟨args [(0, 17), (1, 2)] [(0, .affine 5 1), (1, .affine 5 1)], by decide⟩,
    ⟨args [(0, 17), (1, 2)] [(0, .affine 5 1), (1, .affine 6 3)], by decide⟩,
    ⟨args [(0, 15), (1, 2)] [(0, .affine 1 1), (1, .affine 4 2)], by decide⟩⟩

theorem witness_ecPmul :
    2 ≤ (args [(0, 17), (6, 18)] []).A 0 ∧ (args [(0, 17), (6, 18)] []).A 6 < 2 ^ 5 ∧ (args [] []).A 6 < 2 ^ 0 := by decide

theorem witness_groupLaws :
    ∃ t, 2 ≤ (args [(0, 17)] [(0, .affine 5 1)]).A 0 ∧ (args [(0, 17)] [(0, .affine 5 1)]).P 0 = .affine 5 1 ∧ 1 < 17 ∧
      exec .ecPneg (args [(0, 17)] [(0, .affine 5 1)]) = .next t ∧
      (args [(0, 17)] [(0, .affine 5 1), (1, .affine 5 16)]).P 1 = (t.pr.get 0).toPoint :=
  ⟨_, by decide, by decide, by decide, rfl, by decide⟩

theorem witness_onCurve :
    (∃ s : State, 2 ≤ s.A 0 ∧ s.P 0 = .affine 5 1 ∧ 1 * 1 % s.A 0 = (5 * 5 * 5 + s.A 1 * 5 + s.A 2) % s.A 0) ∧
    (∃ s : State, 2 ≤ s.A 0 ∧ s.P 0 = .affine 5 2 ∧ 2 * 2 % s.A 0 ≠ (5 * 5 * 5 + s.A 1 * 5 + s.A 2) % s.A 0) :=
  ⟨⟨args [(0, 17), (1, 2), (2, 2)] [(0, .affine 5 1)], by decide⟩, ⟨args [(0, 17), (1, 2), (2, 2)] [(0, .affine 5 2)], by decide⟩⟩

/-- `k = 10` signs, the digest 8 gives `s = 0`, `k = 19` gives the identity, `k = 7` the abscissa 0, and 2 has no inverse
modulo 4. -/
theorem witness_ecdsaSign :
    (∃ s : State, 2 ≤ s.A 0 ∧ 2 ≤ s.A 3 ∧ scalarMult (s.A 6) (s.P 0) (s.A 0) (s.A 1) = .affine 7 11 ∧ 7 % s.A 3 ≠ 0 ∧
      s.A 6 * 2 % s.A 3 = 1 ∧ 2 * (s.A 5 + 7 % s.A 3 * s.A 4) % s.A 3 ≠ 0) ∧
    (∃ s : State, 2 ≤ s.A 0 ∧ 2 ≤ s.A 3 ∧ scalarMult (s.A 6) (s.P 0) (s.A 0) (s.A 1) = .affine 7 11 ∧ 7 % s.A 3 ≠ 0 ∧
      s.A 6 * 2 % s.A 3 = 1 ∧ 2 * (s.A 5 + 7 % s.A 3 * s.A 4) % s.A 3 = 0) ∧
    (∃ s : State, 2 ≤ s.A 0 ∧ 2 ≤ s.A 3 ∧ scalarMult (s.A 6) (s.P 0) (s.A 0) (s.A 1) = .infinity) ∧
    (∃ s : State, 2 ≤ s.A 0 ∧ 2 ≤ s.A 3 ∧ scalarMult (s.A 6) (s.P 0) (s.A 0) (s.A 1) = .affine 0 6 ∧ 0 % s.A 3 = 0) ∧
    (∃ s : State, 2 ≤ s.A 0 ∧ 2 ≤ s.A 3 ∧ Nat.gcd (s.A 6) (s.A 3) ≠ 1) :=
  ⟨⟨args [(0, 17), (1, 2), (3, 19), (4, 7), (5, 10), (6, 10)] [(0, .affine 5 1)], by decide⟩,
    ⟨args [(0, 17), (1, 2), (3, 19), (4, 7), (5, 8), (6, 10)] [(0, .affine 5 1)], by decide⟩,
    ⟨args [(0, 17), (1, 2), (3, 19), (6, 19)] [(0, .affine 5 1)], by decide⟩,
    ⟨args [(0, 17), (1, 2), (3, 19), (6, 7)] [(0, .affine 5 1)], by decide⟩,
    ⟨args [(0, 17), (1, 2), (3, 4), (6, 2)] [(0, .affine 5 1)], by decide⟩⟩

/-- The digests 10, 11 and 12 of spec/96_test_vectors_schemes.md: accepted, another abscissa, the identity. -/
theorem witness_ecdsaVerify :
    (∃ s : State, 2 ≤ s.A 0 ∧ 2 ≤ s.A 3 ∧ s.A 7 ≠ 0 ∧ s.A 8 * 5 % s.A 3 = 1 ∧ 7 % s.A 3 = s.A 7 ∧
      pointAdd (scalarMult (s.A 5 * 5 % s.A 3) (s.P 0) (s.A 0) (s.A 1)) (scalarMult (s.A 7 * 5 % s.A 3) (s.P 1) (s.A 0) (s.A 1))
        (s.A 0) (s.A 1) = .affine 7 11) ∧
    (∃ s : State, 2 ≤ s.A 0 ∧ 2 ≤ s.A 3 ∧ s.A 7 ≠ 0 ∧ s.A 8 * 5 % s.A 3 = 1 ∧ 3 % s.A 3 ≠ s.A 7 ∧
      pointAdd (scalarMult (s.A 5 * 5 % s.A 3) (s.P 0) (s.A 0) (s.A 1)) (scalarMult (s.A 7 * 5 % s.A 3) (s.P 1) (s.A 0) (s.A 1))
        (s.A 0) (s.A 1) = .affine 3 16) ∧
    (∃ s : State, 2 ≤ s.A 0 ∧ 2 ≤ s.A 3 ∧ s.A 7 ≠ 0 ∧ s.A 8 * 1 % s.A 3 = 1 ∧
      pointAdd (scalarMult (s.A 5 * 1 % s.A 3) (s.P 0) (s.A 0) (s.A 1)) (scalarMult (s.A 7 * 1 % s.A 3) (s.P 1) (s.A 0) (s.A 1))
        (s.A 0) (s.A 1) = .infinity) ∧
    (∃ s : State, 2 ≤ s.A 0 ∧ 2 ≤ s.A 3 ∧ s.A 7 = 0) ∧ (∃ s : State, 2 ≤ s.A 0 ∧ 2 ≤ s.A 3 ∧ s.A 8 = 0) ∧
    (∃ s : State, 2 ≤ s.A 0 ∧ 2 ≤ s.A 3 ∧ Nat.gcd (s.A 8) (s.A 3) ≠ 1) ∧ (∃ s : State, s.A 3 < 2) :=
  ⟨⟨args [(0, 17), (1, 2), (3, 19), (5, 10), (7, 7), (8, 4)] [(0, .affine 5 1), (1, .affine 0 6)], by decide⟩,
    ⟨args [(0, 17), (1, 2), (3, 19), (5, 11), (7, 7), (8, 4)] [(0, .affine 5 1), (1, .affine 0 6)], by decide⟩,
    ⟨args [(0, 17), (1, 2), (3, 19), (5, 12), (7, 1), (8, 1)] [(0, .affine 5 1), (1, .affine 0 6)], by decide⟩,
    ⟨args [(0, 2), (3, 2), (8, 1)] [], by decide⟩, ⟨args [(0, 2), (3, 2), (7, 1)] [], by decide⟩,
    ⟨args [(0, 2), (3, 19), (7, 1), (8, 19)] [], by decide⟩, ⟨args [(3, 1)] [], by decide⟩⟩

end Sys2Proof.Tests
end

section
/-! PROOF. How large the values of the arithmetic and of the curve functions are: each residue is below its modulus, the
Bézout coefficients are no larger than the operands, and point functions keep coordinates below any bound that the
modulus and the operands meet (spec/00_scope.md R11). -/

namespace Sys2Proof.Machine

/-! ### Residues -/

theorem addmod_lt (a b m : Nat) (h : 0 < m) : addmod a b m < m := modZ_lt _ m h

theorem macmod_lt (a b c m : Nat) (h : 0 < m) : macmod a b c m < m := modZ_lt _ m h

theorem modexpLoop_lt (m : Nat) (hm : 0 < m) (fuel r s t : Nat) (hr : r < m) : modexpLoop m fuel r s t < m := by
  induction fuel generalizing r s t with
  | zero => exact hr
  | succ fuel ih =>
    by_cases ht : t = 0
    · rwa [ht, modexpLoop_zero]
    · rw [modexpLoop_succ _ _ _ _ _ ht]
      apply ih
      split
      · exact mulmod_lt _ _ _ hm
      · exact hr

/-- The power is reduced: the loop starts from 1, which is below every modulus of 2 or more (spec/40_kernel.md R105). -/
theorem modexp_lt (b e m : Nat) (hm : 1 < m) : modexp b e m < m := modexpLoop_lt m (by omega) _ _ _ _ hm

/-! ### Extended GCD -/

/-- The bounds each call of the recurrence hands to its caller, whatever the fuel: `|x| ≤ max 1 b`, `|y| ≤ max 1 a`,
and the greatest common divisor is at most an operand (spec/40_kernel.md R108, R109). -/
theorem xgcdRec_bounds (fuel a b : Nat) :
    (xgcdRec fuel a b).1 ≤ max a b ∧ (xgcdRec fuel a b).2.1.natAbs ≤ max 1 b ∧
      (xgcdRec fuel a b).2.2.natAbs ≤ max 1 a := by
  induction fuel generalizing a b with
  | zero => simp [xgcdRec]
  | succ fuel ih =>
    rcases Nat.eq_zero_or_pos b with rfl | hb
    · simp [xgcdRec_zero]
    rw [xgcdRec_succ _ _ _ (by omega)]
    have hlt : a % b < b := Nat.mod_lt _ hb
    rcases Nat.eq_zero_or_pos (a % b) with hr | hr
    · simp [hr, xgcdRec_zero]
    · obtain ⟨hg, hx, hy⟩ := ih b (a % b)
      generalize xgcdRec fuel b (a % b) = rec at hg hx hy
      have hdiv : a / b * b + a % b = a := Nat.div_add_mod' a b
      have hq : (((a / b : Nat) : Int) * rec.2.2).natAbs ≤ a / b * b := by
        rw [Int.natAbs_mul, Int.natAbs_natCast]
        exact Nat.mul_le_mul_left _ (by omega)
      dsimp only
      omega

/-- An extended GCD fits wherever 1 and both operands fit (spec/00_scope.md R11). -/
theorem xgcd_lt (a b n : Nat) (hn : 1 < n) (ha : a < n) (hb : b < n) :
    (xgcd a b).1 < n ∧ (xgcd a b).2.1.natAbs < n ∧ (xgcd a b).2.2.natAbs < n := by
  obtain ⟨hg, hx, hy⟩ := xgcdRec_bounds (b + 1) a b
  unfold xgcd
  omega

theorem modInverse_lt (a m : Nat) (hm : 0 < m) : modInverse a m < m := by
  rw [modInverse_eq]
  split
  · exact hm
  · exact modZ_lt _ m hm

/-! ### Points -/

/-- Both coordinates are below `n`; the identity has none. -/
def Point.Below (n : Nat) : Point → Prop
  | .infinity => True
  | .affine x y => x < n ∧ y < n

theorem Point.below_infinity (n : Nat) : Point.infinity.Below n := trivial

/-- The register encoding adds nothing but zeros (spec/10_state.md R33). -/
theorem Point.Below.toReg_lt {n : Nat} {P : Point} (h : P.Below n) (hn : 0 < n) : P.toReg.x < n ∧ P.toReg.y < n := by
  cases P with
  | infinity => exact ⟨hn, hn⟩
  | affine x y => exact h

theorem toPoint_below (n : Nat) (q : PointReg) (hx : q.x < n) (hy : q.y < n) : q.toPoint.Below n := by
  unfold PointReg.toPoint
  split
  · trivial
  · exact ⟨hx, hy⟩

section
variable {n p : Nat} (hp : 0 < p) (hpn : p ≤ n)
include hp hpn

theorem pointFromFraction_below (num den x1 y1 x2 : Nat) : (pointFromFraction num den x1 y1 x2 p).Below n := by
  unfold pointFromFraction
  dsimp only
  split
  · trivial
  · exact ⟨(modZ_lt _ p hp).trans_le hpn, (modZ_lt _ p hp).trans_le hpn⟩

theorem pointAdd_below (a : Nat) {P Q : Point} (hP : P.Below n) (hQ : Q.Below n) : (pointAdd P Q p a).Below n := by
  cases P with
  | infinity => exact hQ
  | affine x1 y1 =>
    cases Q with
    | infinity => exact hP
    | affine x2 y2 =>
      rw [pointAdd_affine]
      split
      · trivial
      split
      · exact pointFromFraction_below hp hpn ..
      · exact pointFromFraction_below hp hpn ..

theorem pointNeg_below {P : Point} (hP : P.Below n) : (pointNeg P p).Below n := by
  cases P with
  | infinity => trivial
  | affine x y => exact ⟨hP.1, (modZ_lt _ p hp).trans_le hpn⟩

theorem scalarMultLoop_below (a fuel : Nat) {acc add : Point} (e : Nat) (hacc : acc.Below n) (hadd : add.Below n) :
    (scalarMultLoop p a fuel acc add e).Below n := by
  induction fuel generalizing acc add e with
  | zero => exact hacc
  | succ fuel ih =>
    by_cases he : e = 0
    · rwa [he, scalarMultLoop_zero]
    · rw [scalarMultLoop_succ _ _ _ _ _ _ he]
      refine ih (e / 2) ?_ (pointAdd_below hp hpn a hadd hadd)
      split
      · exact pointAdd_below hp hpn a hacc hadd
      · exact hacc

theorem scalarMult_below (k a : Nat) {P : Point} (hP : P.Below n) : (scalarMult k P p a).Below n :=
  scalarMultLoop_below hp hpn a _ k (Point.below_infinity n) hP

end

/-! ### Words of a register -/

/-- A write of one of the register's own words keeps it within its width (spec/20_memory.md R63 (e)). -/
theorem setWord_lt (v j n : Nat) (w : Word) (hj : j < n) (hv : v < 2 ^ (32 * n)) : setWord v j w < 2 ^ (32 * n) := by
  have hwidth : 2 ^ (32 * n) = 2 ^ (32 * (n - (j + 1))) * 2 ^ (32 * (j + 1)) := by rw [← pow_add]; congr 1; omega
  have hword : 2 ^ (32 * (j + 1)) = 2 ^ 32 * 2 ^ (32 * j) := by rw [← pow_add]; congr 1; omega
  have hhigh : v / 2 ^ (32 * (j + 1)) < 2 ^ (32 * (n - (j + 1))) :=
    Nat.div_lt_of_lt_mul (by rwa [Nat.mul_comm, ← hwidth])
  have hlow : 2 ^ (32 * j) * w.toNat + v % 2 ^ (32 * j) < 2 ^ (32 * (j + 1)) := by
    rw [hword]
    exact Nat.mul_add_lt_mul_of_lt_of_lt w.isLt (Nat.mod_lt _ (by positivity))
  rw [setWord, Nat.shiftRight_eq_div_pow, Nat.shiftLeft_eq, Nat.shiftLeft_eq, Nat.add_assoc, Nat.mul_comm,
    Nat.mul_comm w.toNat, hwidth]
  exact Nat.mul_add_lt_mul_of_lt_of_lt hhigh hlow

end Sys2Proof.Machine
end

section
/-! PROOF. One pass over the 31 commands, following the branches of each definition: two states that agree on the
registers a command's row lists complete with one and the same outcome, that outcome names results of the row only, and
its values fit the width (spec/00_scope.md R11, R13, spec/30_encoding.md R85). -/

namespace Sys2Proof.Machine

/-! ### What an outcome may hold -/

/-- Every value of the outcome is below `n`. -/
structure CmdOutcome.Below (n : Nat) (o : CmdOutcome) : Prop where
  r0 : o.r0 < n
  r1 : o.r1 < n
  r2 : o.r2 < n
  pr0 : ∀ P ∈ o.pr0, P.Below n
  pr1 : ∀ P ∈ o.pr1, P.Below n

/-- A failure holds nothing but its code and warning (spec/60_exceptions.md R200). -/
theorem failure_below {n : Nat} (hn : 0 < n) (code : RC) (warn : Bool) : (CmdOutcome.failure code warn).Below n :=
  ⟨hn, hn, hn, nofun, nofun⟩

/-- The outcome respects the command's row: it names no result the row does not list, and when the registers of `s` fit
the width its values do. -/
structure RespectsRow (i : Instr) (s : State) (o : CmdOutcome) : Prop where
  scalars : ∀ k, k ∉ scalarResults i → (#v[o.r0, o.r1, o.r2]).get k = 0
  points : ∀ k, k ∉ pointResults i → (#v[o.pr0, o.pr1]).get k = none
  fits : s.FitsWidth → o.Below (2 ^ s.W)

theorem State.one_lt_width (s : State) : 1 < 2 ^ s.W := Nat.one_lt_two_pow (by unfold State.W State.NW; omega)

theorem State.width_pos (s : State) : 0 < 2 ^ s.W := by positivity

theorem State.FitsWidth.scalar {s : State} (h : s.FitsWidth) (k : Fin 9) : s.A k < 2 ^ s.W := by
  obtain ⟨ha, -, -, -⟩ := h
  exact ha k

theorem State.FitsWidth.point {s : State} (h : s.FitsWidth) (k : Fin 3) : (s.P k).Below (2 ^ s.W) := by
  obtain ⟨-, hpa, -, -⟩ := h
  exact toPoint_below _ _ (hpa k).1 (hpa k).2

/-- A residue modulo an argument register fits. -/
theorem State.FitsWidth.below_scalar {s : State} (h : s.FitsWidth) {k : Fin 9} {v : Nat} (hv : v < s.A k) :
    v < 2 ^ s.W := hv.trans (h.scalar k)

section
variable {i : Instr} {s : State}

/-- The three result values of a command that returns no point. -/
theorem respectsRow_scalars {v0 v1 v2 : Nat} {rc : RC} {warn xneg yneg : Bool}
    (h0 : 0 ∈ scalarResults i ∨ v0 = 0) (h1 : 1 ∈ scalarResults i ∨ v1 = 0) (h2 : 2 ∈ scalarResults i ∨ v2 = 0)
    (hv : s.FitsWidth → v0 < 2 ^ s.W ∧ v1 < 2 ^ s.W ∧ v2 < 2 ^ s.W) :
    RespectsRow i s { rc := rc, warn := warn, r0 := v0, r1 := v1, r2 := v2, xneg := xneg, yneg := yneg } where
  scalars k hk := by
    match k with
    | 0 => exact h0.resolve_left hk
    | 1 => exact h1.resolve_left hk
    | 2 => exact h2.resolve_left hk
  points k _ := by
    match k with
    | 0 => rfl
    | 1 => rfl
  fits hf := by
    obtain ⟨hv0, hv1, hv2⟩ := hv hf
    exact ⟨hv0, hv1, hv2, nofun, nofun⟩

theorem respectsRow_failure (code : RC) (warn : Bool) : RespectsRow i s (.failure code warn) :=
  respectsRow_scalars (.inr rfl) (.inr rfl) (.inr rfl) fun _ => ⟨s.width_pos, s.width_pos, s.width_pos⟩

theorem respectsRow_scalar {v : Nat} {warn : Bool} (h0 : 0 ∈ scalarResults i) (hv : s.FitsWidth → v < 2 ^ s.W) :
    RespectsRow i s { warn := warn, r0 := v } :=
  respectsRow_scalars (.inl h0) (.inr rfl) (.inr rfl) fun hf => ⟨hv hf, s.width_pos, s.width_pos⟩

theorem respectsRow_pair {v0 v1 : Nat} (h0 : 0 ∈ scalarResults i) (h1 : 1 ∈ scalarResults i)
    (hv : s.FitsWidth → v0 < 2 ^ s.W ∧ v1 < 2 ^ s.W) : RespectsRow i s { r0 := v0, r1 := v1 } :=
  respectsRow_scalars (.inl h0) (.inl h1) (.inr rfl) fun hf => ⟨(hv hf).1, (hv hf).2, s.width_pos⟩

/-- The points of a command that returns no scalar. -/
theorem respectsRow_points {P : Point} {Q : Option Point} (h0 : 0 ∈ pointResults i)
    (h1 : 1 ∈ pointResults i ∨ Q = none)
    (hP : s.FitsWidth → P.Below (2 ^ s.W)) (hQ : s.FitsWidth → ∀ R ∈ Q, R.Below (2 ^ s.W)) :
    RespectsRow i s { pr0 := some P, pr1 := Q } where
  scalars k _ := by
    match k with
    | 0 => rfl
    | 1 => rfl
    | 2 => rfl
  points k hk := by
    match k with
    | 0 => exact absurd h0 hk
    | 1 => exact h1.resolve_left hk
  fits hf := ⟨s.width_pos, s.width_pos, s.width_pos, fun R hR => Option.some.inj hR ▸ hP hf, hQ hf⟩

theorem respectsRow_point {P : Point} (h0 : 0 ∈ pointResults i) (hP : s.FitsWidth → P.Below (2 ^ s.W)) :
    RespectsRow i s { pr0 := some P } :=
  respectsRow_points h0 (.inr rfl) hP fun _ => nofun

end

/-! ### Completing together -/

/-- `x`, answered on `s`, and `y`, answered on `t`, are completions with one and the same outcome, which respects the row
of `i` on `t`. -/
def CompleteTogether (i : Instr) (s t : State) (x y : Outcome) : Prop :=
  ∃ o, RespectsRow i t o ∧ x = .next (s.commit o) ∧ y = .next (t.commit o)

namespace CompleteTogether
variable {i : Instr} {s t : State}

theorem finish {o : CmdOutcome} (h : RespectsRow i t o) : CompleteTogether i s t (s.finish o) (t.finish o) :=
  ⟨o, h, rfl, rfl⟩

theorem fail {code : RC} : CompleteTogether i s t (s.fail code) (t.fail code) := finish (respectsRow_failure code false)

theorem failWarned {code : RC} {warn : Bool} :
    CompleteTogether i s t (s.failWarned code warn) (t.failWarned code warn) := finish (respectsRow_failure code warn)

/-- The one result is a residue modulo an argument register. -/
theorem finish_residue {v : Nat} {warn : Bool} {k : Fin 9} (h0 : 0 ∈ scalarResults i) (hv : v < t.A k) :
    CompleteTogether i s t (s.finish { warn := warn, r0 := v }) (t.finish { warn := warn, r0 := v }) :=
  finish (respectsRow_scalar h0 fun hf => hf.below_scalar hv)

/-- Both results are residues modulo argument registers. -/
theorem finish_residues {v0 v1 : Nat} {k l : Fin 9} (h0 : 0 ∈ scalarResults i) (h1 : 1 ∈ scalarResults i)
    (hv0 : v0 < t.A k) (hv1 : v1 < t.A l) :
    CompleteTogether i s t (s.finish { r0 := v0, r1 := v1 }) (t.finish { r0 := v0, r1 := v1 }) :=
  finish (respectsRow_pair h0 h1 fun hf => ⟨hf.below_scalar hv0, hf.below_scalar hv1⟩)

/-- The answer "yes" of a verifier or predicate. -/
theorem finish_yes (h0 : 0 ∈ scalarResults i) :
    CompleteTogether i s t (s.finish { r0 := 1 }) (t.finish { r0 := 1 }) :=
  finish (respectsRow_scalar h0 fun _ => t.one_lt_width)

/-- Both sides take the same branch. -/
theorem branch {c : Prop} [Decidable c] {x x' y y' : Outcome} (hpos : c → CompleteTogether i s t x y)
    (hneg : ¬c → CompleteTogether i s t x' y') :
    CompleteTogether i s t (if c then x else x') (if c then y else y') := by
  split
  · exact hpos ‹_›
  · exact hneg ‹_›

end CompleteTogether

/-! ### The kernel -/

section
variable {s t : State}

open CompleteTogether (finish finish_residue finish_residues finish_yes fail failWarned branch)

/-- The exponentiation that `MODEXP` and four RSA commands share (spec/40_kernel.md R107, spec/41_rsa.md R126). -/
theorem powerCommand_completeTogether {i : Instr} (hA : ∀ k ∈ ([0, 1, 2] : List (Fin 9)), s.A k = t.A k)
    (h0 : 0 ∈ scalarResults i) : CompleteTogether i s t (powerCommand s) (powerCommand t) := by
  simp (disch := decide) only [powerCommand, hA]
  exact branch (fun _ => fail) fun hm => finish_residue h0 (modexp_lt _ _ _ (by omega))

theorem execModadd_completeTogether (h : State.SameArguments .modadd s t) :
    CompleteTogether .modadd s t (execModadd s) (execModadd t) := by
  obtain ⟨-, hA, -⟩ := h
  simp (disch := decide) only [execModadd, hA]
  exact branch (fun _ => fail) fun hm => finish_residue (by decide) (addmod_lt _ _ _ (by omega))

theorem execModsub_completeTogether (h : State.SameArguments .modsub s t) :
    CompleteTogether .modsub s t (execModsub s) (execModsub t) := by
  obtain ⟨-, hA, -⟩ := h
  simp (disch := decide) only [execModsub, hA]
  exact branch (fun _ => fail) fun hm => finish_residue (by decide) (submod_lt _ _ _ (by omega))

theorem execModmul_completeTogether (h : State.SameArguments .modmul s t) :
    CompleteTogether .modmul s t (execModmul s) (execModmul t) := by
  obtain ⟨-, hA, -⟩ := h
  simp (disch := decide) only [execModmul, hA]
  exact branch (fun _ => fail) fun hm => finish_residue (by decide) (mulmod_lt _ _ _ (by omega))

theorem execModmac_completeTogether (h : State.SameArguments .modmac s t) :
    CompleteTogether .modmac s t (execModmac s) (execModmac t) := by
  obtain ⟨-, hA, -⟩ := h
  simp (disch := decide) only [execModmac, hA]
  exact branch (fun _ => fail) fun hm => finish_residue (by decide) (macmod_lt _ _ _ _ (by omega))

theorem execXgcd_completeTogether (h : State.SameArguments .xgcd s t) :
    CompleteTogether .xgcd s t (execXgcd s) (execXgcd t) := by
  obtain ⟨-, hA, -⟩ := h
  simp (disch := decide) only [execXgcd, hA]
  refine finish (respectsRow_scalars (.inl (by decide)) (.inl (by decide)) (.inl (by decide)) fun hf => ?_)
  exact xgcd_lt _ _ _ t.one_lt_width (hf.scalar 0) (hf.scalar 1)

theorem execModinv_completeTogether (h : State.SameArguments .modinv s t) :
    CompleteTogether .modinv s t (execModinv s) (execModinv t) := by
  obtain ⟨-, hA, -⟩ := h
  simp (disch := decide) only [execModinv, hA]
  refine branch (fun _ => fail) fun hm => branch (fun _ => fail) fun _ => ?_
  exact finish_residue (by decide) (modInverse_lt _ _ (by omega))

/-! ### RSA -/

/-- The decryption exponent is below `(p - 1) * (q - 1)`, which is at most the modulus that was found to fit. -/
theorem execRsaKeygen_completeTogether (h : State.SameArguments .rsaKeygen s t) :
    CompleteTogether .rsaKeygen s t (execRsaKeygen s) (execRsaKeygen t) := by
  obtain ⟨hW, hA, -⟩ := h
  have hwidth : s.W = t.W := by rw [State.W, State.NW, hW rfl, State.W, State.NW]
  simp (disch := decide) only [execRsaKeygen, hA, hwidth]
  refine branch (fun _ => fail) fun hm => branch (fun _ => fail) fun hn => ?_
  refine branch (fun _ => fail) fun hphi => branch (fun _ => fail) fun _ => ?_
  refine finish (respectsRow_pair (by decide) (by decide) fun _ => ⟨by omega, ?_⟩)
  calc modInverse (t.A 2) ((t.A 0 - 1) * (t.A 1 - 1))
      < (t.A 0 - 1) * (t.A 1 - 1) := modInverse_lt _ _ (by omega)
    _ ≤ t.A 0 * t.A 1 := Nat.mul_le_mul (Nat.sub_le ..) (Nat.sub_le ..)
    _ < 2 ^ t.W := by omega

/-! ### Diffie-Hellman -/

theorem execDhPubkey_completeTogether (h : State.SameArguments .dhPubkey s t) :
    CompleteTogether .dhPubkey s t (execDhPubkey s) (execDhPubkey t) := by
  obtain ⟨-, hA, -⟩ := h
  simp (disch := decide) only [execDhPubkey, hA]
  exact branch (fun _ => fail) fun hm => finish_residue (by decide) (modexp_lt _ _ _ (by omega))

theorem execDhShared_completeTogether (h : State.SameArguments .dhShared s t) :
    CompleteTogether .dhShared s t (execDhShared s) (execDhShared t) := by
  obtain ⟨-, hA, -⟩ := h
  simp (disch := decide) only [execDhShared, hA]
  refine branch (fun _ => fail) fun hm => branch (fun _ => failWarned) fun _ => ?_
  exact finish_residue (by decide) (modexp_lt _ _ _ (by omega))

/-! ### ElGamal -/

theorem execEgKeygen_completeTogether (h : State.SameArguments .egKeygen s t) :
    CompleteTogether .egKeygen s t (execEgKeygen s) (execEgKeygen t) := by
  obtain ⟨-, hA, -⟩ := h
  simp (disch := decide) only [execEgKeygen, hA]
  exact branch (fun _ => fail) fun hm => finish_residue (by decide) (modexp_lt _ _ _ (by omega))

theorem execEgEncrypt_completeTogether (h : State.SameArguments .egEncrypt s t) :
    CompleteTogether .egEncrypt s t (execEgEncrypt s) (execEgEncrypt t) := by
  obtain ⟨-, hA, -⟩ := h
  simp (disch := decide) only [execEgEncrypt, hA]
  refine branch (fun _ => fail) fun hm => ?_
  exact finish_residues (by decide) (by decide) (modexp_lt _ _ _ (by omega)) (mulmod_lt _ _ _ (by omega))

theorem execEgDecrypt_completeTogether (h : State.SameArguments .egDecrypt s t) :
    CompleteTogether .egDecrypt s t (execEgDecrypt s) (execEgDecrypt t) := by
  obtain ⟨-, hA, -⟩ := h
  simp (disch := decide) only [execEgDecrypt, hA]
  refine branch (fun _ => fail) fun hm => branch (fun _ => fail) fun _ => ?_
  exact finish_residue (by decide) (mulmod_lt _ _ _ (by omega))

theorem execEgSign_completeTogether (h : State.SameArguments .egSign s t) :
    CompleteTogether .egSign s t (execEgSign s) (execEgSign t) := by
  obtain ⟨-, hA, -⟩ := h
  simp (disch := decide) only [execEgSign, hA]
  refine branch (fun _ => fail) fun hm => branch (fun _ => fail) fun _ => branch (fun _ => fail) fun _ => ?_
  exact finish_residues (by decide) (by decide) (modexp_lt _ _ _ (by omega))
    ((mulmod_lt _ _ _ (by omega)).trans_le (Nat.sub_le _ 1))

theorem execEgVerify_completeTogether (h : State.SameArguments .egVerify s t) :
    CompleteTogether .egVerify s t (execEgVerify s) (execEgVerify t) := by
  obtain ⟨-, hA, -⟩ := h
  simp (disch := decide) only [execEgVerify, hA]
  refine branch (fun _ => fail) fun _ => branch (fun _ => fail) fun _ => branch (fun _ => fail) fun _ => ?_
  exact finish_yes (by decide)

/-! ### DSA -/

theorem execDsaKeygen_completeTogether (h : State.SameArguments .dsaKeygen s t) :
    CompleteTogether .dsaKeygen s t (execDsaKeygen s) (execDsaKeygen t) := by
  obtain ⟨-, hA, -⟩ := h
  simp (disch := decide) only [execDsaKeygen, hA]
  refine branch (fun _ => fail) fun hm => branch (fun _ => fail) fun _ => ?_
  exact finish_residue (by decide) (modexp_lt _ _ _ (by omega))

theorem execDsaSign_completeTogether (h : State.SameArguments .dsaSign s t) :
    CompleteTogether .dsaSign s t (execDsaSign s) (execDsaSign t) := by
  obtain ⟨-, hA, -⟩ := h
  simp (disch := decide) only [execDsaSign, hA]
  refine branch (fun _ => fail) fun hm => branch (fun _ => fail) fun _ => branch (fun _ => fail) fun _ => ?_
  refine branch (fun _ => fail) fun _ => ?_
  exact finish_residues (by decide) (by decide) (modZ_lt _ _ (by omega)) (mulmod_lt _ _ _ (by omega))

theorem execDsaVerify_completeTogether (h : State.SameArguments .dsaVerify s t) :
    CompleteTogether .dsaVerify s t (execDsaVerify s) (execDsaVerify t) := by
  obtain ⟨-, hA, -⟩ := h
  simp (disch := decide) only [execDsaVerify, hA]
  refine branch (fun _ => fail) fun _ => branch (fun _ => fail) fun _ => branch (fun _ => fail) fun _ => ?_
  refine branch (fun _ => fail) fun _ => ?_
  exact finish_yes (by decide)

/-! ### Elliptic curves -/

theorem execEcOncurve_completeTogether (h : State.SameArguments .ecOncurve s t) :
    CompleteTogether .ecOncurve s t (execEcOncurve s) (execEcOncurve t) := by
  obtain ⟨-, hA, hP⟩ := h
  simp (disch := decide) only [execEcOncurve, hA, hP]
  refine branch (fun _ => fail) fun _ => branch (fun _ => ?_) fun _ => ?_
  · exact finish_yes (by decide)
  · exact finish (respectsRow_scalar (by decide) fun _ => t.width_pos)

theorem execEcPadd_completeTogether (h : State.SameArguments .ecPadd s t) :
    CompleteTogether .ecPadd s t (execEcPadd s) (execEcPadd t) := by
  obtain ⟨-, hA, hP⟩ := h
  simp (disch := decide) only [execEcPadd, hA, hP]
  refine branch (fun _ => fail) fun hm => finish (respectsRow_point (by decide) fun hf => ?_)
  exact pointAdd_below (by omega) (hf.scalar 0).le _ (hf.point 0) (hf.point 1)

theorem execEcPneg_completeTogether (h : State.SameArguments .ecPneg s t) :
    CompleteTogether .ecPneg s t (execEcPneg s) (execEcPneg t) := by
  obtain ⟨-, hA, hP⟩ := h
  simp (disch := decide) only [execEcPneg, hA, hP]
  refine branch (fun _ => fail) fun hm => finish (respectsRow_point (by decide) fun hf => ?_)
  exact pointNeg_below (by omega) (hf.scalar 0).le (hf.point 0)

theorem execEcPmul_completeTogether (h : State.SameArguments .ecPmul s t) :
    CompleteTogether .ecPmul s t (execEcPmul s) (execEcPmul t) := by
  obtain ⟨-, hA, hP⟩ := h
  simp (disch := decide) only [execEcPmul, hA, hP]
  refine branch (fun _ => fail) fun hm => finish (respectsRow_point (by decide) fun hf => ?_)
  exact scalarMult_below (by omega) (hf.scalar 0).le _ _ (hf.point 0)

theorem execEcKeygen_completeTogether (h : State.SameArguments .ecKeygen s t) :
    CompleteTogether .ecKeygen s t (execEcKeygen s) (execEcKeygen t) := by
  obtain ⟨-, hA, hP⟩ := h
  simp (disch := decide) only [execEcKeygen, hA, hP]
  refine branch (fun _ => fail) fun hm => branch (fun _ => fail) fun _ => ?_
  refine finish (respectsRow_point (by decide) fun hf => ?_)
  exact scalarMult_below (by omega) (hf.scalar 0).le _ _ (hf.point 0)

theorem execEcdsaSign_completeTogether (h : State.SameArguments .ecdsaSign s t) :
    CompleteTogether .ecdsaSign s t (execEcdsaSign s) (execEcdsaSign t) := by
  obtain ⟨-, hA, hP⟩ := h
  simp (disch := decide) only [execEcdsaSign, hA, hP]
  refine branch (fun _ => fail) fun hm => ?_
  cases scalarMult (t.A 6) (t.P 0) (t.A 0) (t.A 1) with
  | infinity => exact fail
  | affine x y =>
    refine branch (fun _ => fail) fun _ => branch (fun _ => fail) fun _ => branch (fun _ => fail) fun _ => ?_
    exact finish_residues (by decide) (by decide) (modZ_lt _ _ (by omega)) (mulmod_lt _ _ _ (by omega))

theorem execEcdsaVerify_completeTogether (h : State.SameArguments .ecdsaVerify s t) :
    CompleteTogether .ecdsaVerify s t (execEcdsaVerify s) (execEcdsaVerify t) := by
  obtain ⟨-, hA, hP⟩ := h
  simp (disch := decide) only [execEcdsaVerify, hA, hP]
  refine branch (fun _ => fail) fun _ => branch (fun _ => fail) fun _ => branch (fun _ => fail) fun _ => ?_
  generalize pointAdd _ _ (t.A 0) (t.A 1) = V
  cases V with
  | infinity => exact fail
  | affine x y =>
    refine branch (fun _ => fail) fun _ => ?_
    exact finish_yes (by decide)

theorem execEcegEncrypt_completeTogether (h : State.SameArguments .ecegEncrypt s t) :
    CompleteTogether .ecegEncrypt s t (execEcegEncrypt s) (execEcegEncrypt t) := by
  obtain ⟨-, hA, hP⟩ := h
  simp (disch := decide) only [execEcegEncrypt, hA, hP]
  refine branch (fun _ => fail) fun hm => ?_
  have hmul {P : Point} (hf : t.FitsWidth) (hP : P.Below (2 ^ t.W)) :
      (scalarMult (t.A 6) P (t.A 0) (t.A 1)).Below (2 ^ t.W) := scalarMult_below (by omega) (hf.scalar 0).le _ _ hP
  refine finish (respectsRow_points (by decide) (.inl (by decide)) (fun hf => hmul hf (hf.point 0)) ?_)
  intro hf R hR
  rw [← Option.some.inj hR]
  exact pointAdd_below (by omega) (hf.scalar 0).le _ (hf.point 2) (hmul hf (hf.point 1))

theorem execEcegDecrypt_completeTogether (h : State.SameArguments .ecegDecrypt s t) :
    CompleteTogether .ecegDecrypt s t (execEcegDecrypt s) (execEcegDecrypt t) := by
  obtain ⟨-, hA, hP⟩ := h
  simp (disch := decide) only [execEcegDecrypt, hA, hP]
  refine branch (fun _ => fail) fun hm => finish (respectsRow_point (by decide) fun hf => ?_)
  have hp : 0 < t.A 0 := by omega
  have hle : t.A 0 ≤ 2 ^ t.W := (hf.scalar 0).le
  exact pointAdd_below hp hle _ (hf.point 1) (pointNeg_below hp hle (scalarMult_below hp hle _ _ (hf.point 0)))

/-! ### All commands -/

/-- Every command: on states that agree on what its row lists it completes with one outcome, which respects the row. -/
theorem exec_completeTogether {i : Instr} (h : State.SameArguments i s t) :
    CompleteTogether i s t (exec i s) (exec i t) := by
  have ⟨_, hA, _⟩ := h
  cases i with
  | modadd => exact execModadd_completeTogether h
  | modsub => exact execModsub_completeTogether h
  | modmul => exact execModmul_completeTogether h
  | modmac => exact execModmac_completeTogether h
  | modexp => exact powerCommand_completeTogether hA (by decide)
  | xgcd => exact execXgcd_completeTogether h
  | modinv => exact execModinv_completeTogether h
  | rsaKeygen => exact execRsaKeygen_completeTogether h
  | rsaEncrypt => exact powerCommand_completeTogether hA (by decide)
  | rsaDecrypt => exact powerCommand_completeTogether hA (by decide)
  | rsaSign => exact powerCommand_completeTogether hA (by decide)
  | rsaVerify => exact powerCommand_completeTogether hA (by decide)
  | dhPubkey => exact execDhPubkey_completeTogether h
  | dhShared => exact execDhShared_completeTogether h
  | egKeygen => exact execEgKeygen_completeTogether h
  | egEncrypt => exact execEgEncrypt_completeTogether h
  | egDecrypt => exact execEgDecrypt_completeTogether h
  | egSign => exact execEgSign_completeTogether h
  | egVerify => exact execEgVerify_completeTogether h
  | dsaKeygen => exact execDsaKeygen_completeTogether h
  | dsaSign => exact execDsaSign_completeTogether h
  | dsaVerify => exact execDsaVerify_completeTogether h
  | ecOncurve => exact execEcOncurve_completeTogether h
  | ecPadd => exact execEcPadd_completeTogether h
  | ecPneg => exact execEcPneg_completeTogether h
  | ecPmul => exact execEcPmul_completeTogether h
  | ecKeygen => exact execEcKeygen_completeTogether h
  | ecdsaSign => exact execEcdsaSign_completeTogether h
  | ecdsaVerify => exact execEcdsaVerify_completeTogether h
  | ecegEncrypt => exact execEcegEncrypt_completeTogether h
  | ecegDecrypt => exact execEcegDecrypt_completeTogether h

/-- One run alone: a command completes with an outcome that respects its row. -/
theorem exec_respectsRow (i : Instr) (s : State) : ∃ o, RespectsRow i s o ∧ exec i s = .next (s.commit o) := by
  have hself : State.SameArguments i s s := ⟨fun _ => rfl, fun _ _ => rfl, fun _ _ => rfl⟩
  obtain ⟨o, ho, hs, -⟩ := exec_completeTogether hself
  exact ⟨o, ho, hs⟩

end

end Sys2Proof.Machine
end

section
/-! PROOF. The statements of spec/00_scope.md: every step keeps the registers within their width (R11), every command
completes and keeps its frame, and reads and writes what its row lists (R13). -/

namespace Sys2Proof.Machine

/-! ### Registers within their width -/

theorem pointResult_lt {n : Nat} {Q : Option Point} (hn : 0 < n) (hQ : ∀ P ∈ Q, P.Below n) :
    (pointResult Q).x < n ∧ (pointResult Q).y < n := by
  cases Q with
  | none => exact ⟨hn, hn⟩
  | some P => exact (hQ P rfl).toReg_lt hn

theorem State.FitsWidth.commit {s : State} {o : CmdOutcome} (h : s.FitsWidth) (ho : o.Below (2 ^ s.W)) :
    (s.commit o).FitsWidth := by
  obtain ⟨ha, hpa, -, -⟩ := h
  obtain ⟨h0, h1, h2, hp0, hp1⟩ := ho
  refine ⟨ha, hpa, fun k => ?_, fun k => ?_⟩
  · match k with
    | 0 => exact h0
    | 1 => exact h1
    | 2 => exact h2
  · match k with
    | 0 => exact pointResult_lt s.width_pos hp0
    | 1 => exact pointResult_lt s.width_pos hp1

theorem exec_keeps_fitsWidth {i : Instr} {s t : State} (h : s.FitsWidth) (he : exec i s = .next t) : t.FitsWidth := by
  obtain ⟨o, ho, hs⟩ := exec_respectsRow i s
  obtain rfl : s.commit o = t := Host.Outcome.next.inj (hs.symm.trans he)
  exact h.commit (ho.fits h)

/-- An illegal word fails with every result 0; a legal one is its command (spec/30_encoding.md R83). -/
theorem engineTurn_keeps_fitsWidth {s t : State} (h : s.FitsWidth) (he : engineTurn s = .next t) : t.FitsWidth := by
  cases hb : s.busy with
  | false =>
    rw [engineTurn_idle s hb] at he
    exact Host.Outcome.next.inj he ▸ h
  | true =>
    rw [engineTurn_busy s hb] at he
    cases hd : decode s.cmdLatch with
    | ok i =>
      rw [completeLatched_ok s i hd] at he
      exact exec_keeps_fitsWidth h he
    | error e =>
      rw [completeLatched_error s e hd] at he
      exact Host.Outcome.next.inj he ▸ h.commit (failure_below s.width_pos .illegalCmd false)

/-- A reset writes zeros only, whatever stood in the registers (spec/70_reset_and_hazards.md R230). -/
theorem resetCore_fitsWidth (s : State) : s.resetCore.FitsWidth := by
  have hpos := s.width_pos
  simp [State.FitsWidth, State.reset, PointReg.zero, hpos]

theorem writePainf_keeps_fitsWidth {s : State} (h : s.FitsWidth) (v : Word) : (s.writePainf v).FitsWidth := by
  obtain ⟨ha, hpa, hr, hpr⟩ := h
  refine ⟨ha, fun k => ?_, hr, hpr⟩
  match k with
  | 0 => exact hpa 0
  | 1 => exact hpa 1
  | 2 => exact hpa 2

/-- What holds of the new entry and of the old ones holds of every entry after a write. -/
theorem vector_get_set_of_forall {α : Type} {n : Nat} (P : α → Prop) {v : Vector α n} {x : α} (i : Fin n)
    (hx : P x) (hv : ∀ k : Fin n, P (v.get k)) (k : Fin n) : P ((v.set i.val x i.isLt).get k) := by
  rw [Vector.get_eq_getElem, Vector.getElem_set]
  split
  · exact hx
  · exact hv k

theorem writeArg_keeps_fitsWidth {s : State} (h : s.FitsWidth) (i : Fin 9) (v : Word) {j : Nat} (hj : j < s.NW) :
    (s.writeArg i j v).FitsWidth := by
  obtain ⟨ha, hpa, hr, hpr⟩ := h
  exact ⟨vector_get_set_of_forall (· < 2 ^ s.W) i (setWord_lt _ _ _ v hj (ha i)) ha, hpa, hr, hpr⟩

theorem writeArgX_keeps_fitsWidth {s : State} (h : s.FitsWidth) (i : Fin 3) (v : Word) {j : Nat} (hj : j < s.NW) :
    (s.writeArgX i j v).FitsWidth := by
  obtain ⟨ha, hpa, hr, hpr⟩ := h
  obtain ⟨hx, hy⟩ := hpa i
  exact ⟨ha, vector_get_set_of_forall (fun q : PointReg => q.x < 2 ^ s.W ∧ q.y < 2 ^ s.W) i
    ⟨setWord_lt _ _ _ v hj hx, hy⟩ hpa, hr, hpr⟩

theorem writeArgY_keeps_fitsWidth {s : State} (h : s.FitsWidth) (i : Fin 3) (v : Word) {j : Nat} (hj : j < s.NW) :
    (s.writeArgY i j v).FitsWidth := by
  obtain ⟨ha, hpa, hr, hpr⟩ := h
  obtain ⟨hx, hy⟩ := hpa i
  exact ⟨ha, vector_get_set_of_forall (fun q : PointReg => q.x < 2 ^ s.W ∧ q.y < 2 ^ s.W) i
    ⟨hx, setWord_lt _ _ _ v hj hy⟩ hpa, hr, hpr⟩

/-- Only class (e) of the host's writes changes a scalar-sized register (spec/20_memory.md R63). -/
theorem writeWord_keeps_fitsWidth {s : State} (h : s.FitsWidth) (off : Nat) (v : Word) :
    (s.writeWord off v).FitsWidth := by
  rcases writeWord_cases s off v with e | ⟨-, e⟩ | ⟨-, e⟩ | ⟨-, e⟩ | ⟨-, -, e⟩ | ⟨-, -, e⟩ | ⟨i, j, -, -, hj, e⟩ |
    ⟨i, j, -, -, hj, e⟩ | ⟨i, j, -, -, hj, e⟩
  · rwa [e]
  · rw [e]; exact h
  · rw [e]; exact h
  · rw [e]; exact h
  · rw [e]; exact h
  · rw [e]; exact writePainf_keeps_fitsWidth h v
  · rw [e]; exact writeArg_keeps_fitsWidth h i v hj
  · rw [e]; exact writeArgX_keeps_fitsWidth h i v hj
  · rw [e]; exact writeArgY_keeps_fitsWidth h i v hj

/-- Settles O29, agent by agent: the engine's completions are bounded command by command, a host write replaces one of
the register's own words, a reset writes zeros, and a read changes no register. -/
theorem everyStepKeepsRegistersWithinWidth : Obligations.EveryStepKeepsRegistersWithinWidth := by
  intro s t h hstep
  have hpop : s.popScript.FitsWidth := h
  rcases step_cases s t hstep with ⟨-, he⟩ | ⟨es, -, he⟩ | ⟨off, es, -, -, -, rfl⟩ | ⟨off, v, es, -, -, -, rfl⟩ |
    ⟨es, -, rfl⟩
  · exact engineTurn_keeps_fitsWidth h he
  · exact engineTurn_keeps_fitsWidth hpop he
  · exact hpop
  · exact writeWord_keeps_fitsWidth hpop off v
  · exact resetCore_fitsWidth _

/-! ### The frame of a completion -/

theorem commit_sameOutsideResults (s : State) (o : CmdOutcome) : (s.commit o).SameOutsideResults s :=
  ⟨rfl, rfl, rfl, rfl, rfl, rfl, rfl, rfl⟩

/-- A completion shows only in `STATUS`, `RFLAGS` and the result slots of the window (spec/10_state.md R42). -/
theorem readWord_commit (s : State) (o : CmdOutcome) (off : Nat) (hstatus : off ≠ 0x008) (hrflags : off ≠ 0x014)
    (hscalars : ¬(0xC00 ≤ off ∧ off < 0xCC0)) (hpoints : ¬(0xE00 ≤ off ∧ off < 0xF00)) :
    (s.commit o).readWord off = s.readWord off := by
  have hplaces := locate_cases off
  unfold State.readWord
  cases hplace : locate off with
  | status =>
    exact absurd (by simpa [hplace] using hplaces) hstatus
  | rflags =>
    exact absurd (by simpa [hplace] using hplaces) hrflags
  | res i j =>
    have hoff : j < 16 ∧ off - off % 4 = 0xC00 + 0x40 * i.val + 4 * j := by simpa [hplace] using hplaces
    omega
  | resX i j =>
    have hoff : j < 16 ∧ off - off % 4 = 0xE00 + 0x80 * i.val + 4 * j := by simpa [hplace] using hplaces
    omega
  | resY i j =>
    have hoff : j < 16 ∧ off - off % 4 = 0xE40 + 0x80 * i.val + 4 * j := by simpa [hplace] using hplaces
    omega
  | id | ctrl | cmd | painf | arg | argX | argY | reserved => rfl

/-- Settles O10: a command is one completion, and a completion keeps the frame. -/
theorem everyCommandCompletesAndKeepsItsFrame : Obligations.EveryCommandCompletesAndKeepsItsFrame := by
  intro i s
  obtain ⟨o, ho⟩ := exec_commits i s
  exact ⟨s.commit o, ho, rfl, rfl, commit_sameOutsideResults s o, readWord_commit s o⟩

/-! ### The row of the operand table -/

theorem commit_sameResults (s t : State) (o : CmdOutcome) : (s.commit o).SameResults (t.commit o) :=
  ⟨rfl, rfl, rfl, rfl, rfl, rfl⟩

theorem commit_pr_get (s : State) (o : CmdOutcome) (k : Fin 2) :
    (s.commit o).pr.get k = pointResult ((#v[o.pr0, o.pr1]).get k) := by
  match k with
  | 0 => rfl
  | 1 => rfl

/-- Settles O11: the two runs complete together, and their common outcome respects the row. -/
theorem commandsUseTheTabulatedRegisters : Obligations.CommandsUseTheTabulatedRegisters := by
  intro i s s' hs
  refine ⟨fun t t' hsame ht => ?_, ?_⟩
  · obtain ⟨o, -, hs', ht'⟩ := exec_completeTogether hsame
    obtain rfl : s.commit o = s' := Host.Outcome.next.inj (hs'.symm.trans hs)
    obtain rfl : t.commit o = t' := Host.Outcome.next.inj (ht'.symm.trans ht)
    exact commit_sameResults s t o
  · obtain ⟨o, ho, hs'⟩ := exec_respectsRow i s
    obtain rfl : s.commit o = s' := Host.Outcome.next.inj (hs'.symm.trans hs)
    refine ⟨ho.scalars, fun k hk => ?_⟩
    rw [commit_pr_get, ho.points k hk]
    rfl

end Sys2Proof.Machine
end

section
/-! PROOF. What an engine's turn, a command and a host write do to the status bits and the result registers: the flags a
command's outcome may hold (spec/10_state.md R28, R35, spec/42_dh.md R133), and that no host write touches a result
(spec/20_memory.md R63). -/

namespace Sys2Proof.Machine

/-! ### The flags of an outcome -/

/-- `x`, answered on `s`, is a completion whose outcome has the property `Q`. -/
def CompletesWith (Q : CmdOutcome → Prop) (s : State) (x : Outcome) : Prop := ∃ o, Q o ∧ x = .next (s.commit o)

/-- The flags the command `i` may set: `WARN` by the DH commands (spec/42_dh.md R133), a sign by `XGCD` and of a value
that is not zero (spec/10_state.md R35, R37). -/
structure FlagsAllowed (i : Instr) (o : CmdOutcome) : Prop where
  warn : o.warn = true → i = .dhPubkey ∨ i = .dhShared
  xneg : o.xneg = true → i = .xgcd ∧ o.r1 ≠ 0
  yneg : o.yneg = true → i = .xgcd ∧ o.r2 ≠ 0

namespace CompletesWith
variable {Q : CmdOutcome → Prop} {i : Instr} {s : State}

theorem finish {o : CmdOutcome} (h : Q o) : CompletesWith Q s (s.finish o) := ⟨o, h, rfl⟩

theorem branch {c : Prop} {_ : Decidable c} {x y : Outcome} (hpos : CompletesWith Q s x) (hneg : CompletesWith Q s y) :
    CompletesWith Q s (if c then x else y) := by
  split
  · exact hpos
  · exact hneg

/-- An outcome with no flag set. -/
theorem unflagged {rc : RC} {v0 v1 v2 : Nat} {P R : Option Point} :
    CompletesWith (FlagsAllowed i) s (s.finish { rc := rc, r0 := v0, r1 := v1, r2 := v2, pr0 := P, pr1 := R }) :=
  finish ⟨nofun, nofun, nofun⟩

/-- An outcome of a DH command, with or without its warning. -/
theorem warned (hi : i = .dhPubkey ∨ i = .dhShared) {rc : RC} {warn : Bool} {v : Nat} :
    CompletesWith (FlagsAllowed i) s (s.finish { rc := rc, warn := warn, r0 := v }) :=
  finish ⟨fun _ => hi, nofun, nofun⟩

theorem fail {code : RC} : CompletesWith (FlagsAllowed i) s (s.fail code) := unflagged

/-- Failing is one branch of a command's test. -/
theorem failOr {c : Prop} {_ : Decidable c} {code : RC} {y : Outcome} (h : CompletesWith (FlagsAllowed i) s y) :
    CompletesWith (FlagsAllowed i) s (if c then s.fail code else y) := branch fail h

end CompletesWith

section
variable (s : State)

open CompletesWith (finish branch unflagged warned fail failOr)

/-- A coefficient below zero has a magnitude above zero. -/
theorem execXgcd_flagsAllowed : CompletesWith (FlagsAllowed .xgcd) s (execXgcd s) := by
  refine finish ⟨nofun, fun hx => ⟨rfl, ?_⟩, fun hy => ⟨rfl, ?_⟩⟩
  · exact Int.natAbs_ne_zero.mpr (of_decide_eq_true hx).ne
  · exact Int.natAbs_ne_zero.mpr (of_decide_eq_true hy).ne

theorem execEcdsaSign_flagsAllowed : CompletesWith (FlagsAllowed .ecdsaSign) s (execEcdsaSign s) := by
  refine failOr ?_
  split
  · exact fail
  · exact failOr (failOr (failOr unflagged))

theorem execEcdsaVerify_flagsAllowed : CompletesWith (FlagsAllowed .ecdsaVerify) s (execEcdsaVerify s) := by
  refine failOr (failOr (failOr ?_))
  dsimp only
  split
  · exact fail
  · exact failOr unflagged

/-- Every command, grouped by the number of its tests before the result. -/
theorem exec_flagsAllowed (i : Instr) : CompletesWith (FlagsAllowed i) s (exec i s) := by
  cases i with
  | xgcd => exact execXgcd_flagsAllowed s
  | dhPubkey => exact failOr (warned (.inl rfl))
  | dhShared => exact failOr (branch (warned (.inr rfl)) (warned (.inr rfl)))
  | modadd | modsub | modmul | modmac | modexp | rsaEncrypt | rsaDecrypt | rsaSign | rsaVerify | egKeygen | egEncrypt |
    ecPadd | ecPneg | ecPmul | ecegEncrypt | ecegDecrypt => exact failOr unflagged
  | modinv | egDecrypt | dsaKeygen | ecKeygen => exact failOr (failOr unflagged)
  | ecOncurve => exact failOr (branch unflagged unflagged)
  | egSign | egVerify => exact failOr (failOr (failOr unflagged))
  | rsaKeygen | dsaSign | dsaVerify => exact failOr (failOr (failOr (failOr unflagged)))
  | ecdsaSign => exact execEcdsaSign_flagsAllowed s
  | ecdsaVerify => exact execEcdsaVerify_flagsAllowed s

end

theorem exec_next_flagsAllowed {i : Instr} {s t : State} (he : exec i s = .next t) :
    ∃ o, FlagsAllowed i o ∧ t = s.commit o := by
  obtain ⟨o, ho, hs⟩ := exec_flagsAllowed s i
  exact ⟨o, ho, Host.Outcome.next.inj (he.symm.trans hs)⟩

/-! ### The engine's turn -/

/-- What an engine's turn that answers can have been (spec/10_state.md R21, R41, R42, spec/30_encoding.md R83). -/
theorem engineTurn_cases {s t : State} (he : engineTurn s = .next t) :
    (s.busy = false ∧ t = s) ∨
    (s.busy = true ∧ ∃ i, decode s.cmdLatch = .ok i ∧ exec i s = .next t) ∨
    (s.busy = true ∧ ∃ e, decode s.cmdLatch = .error e ∧ t = s.commit { rc := .illegalCmd }) := by
  cases hb : s.busy with
  | false =>
    rw [engineTurn_idle s hb] at he
    exact .inl ⟨rfl, (Host.Outcome.next.inj he).symm⟩
  | true =>
    rw [engineTurn_busy s hb] at he
    cases hd : decode s.cmdLatch with
    | ok i => exact .inr (.inl ⟨rfl, i, rfl, completeLatched_ok s i hd ▸ he⟩)
    | error e =>
      rw [completeLatched_error s e hd] at he
      exact .inr (.inr ⟨rfl, e, rfl, (Host.Outcome.next.inj he).symm⟩)

/-! ### Host writes -/

/-- The result registers and result flags are the same (spec/10_state.md R33 to R35). -/
def State.SameResultRegisters (s t : State) : Prop := s.r = t.r ∧ s.pr = t.pr ∧ s.xneg = t.xneg ∧ s.yneg = t.yneg

/-- What a command in flight reads is the same: it is in flight, with its word and its arguments. -/
def State.SameCommandInFlight (s t : State) : Prop :=
  s.busy = t.busy ∧ s.cmdLatch = t.cmdLatch ∧ s.a = t.a ∧ s.pa = t.pa

/-- No class of host write reaches a result (spec/20_memory.md R63). -/
theorem writeWord_sameResultRegisters (s : State) (off : Nat) (v : Word) :
    (s.writeWord off v).SameResultRegisters s := by
  rcases writeWord_cases s off v with e | ⟨-, e⟩ | ⟨-, e⟩ | ⟨-, e⟩ | ⟨-, -, e⟩ | ⟨-, -, e⟩ | ⟨i, j, -, -, -, e⟩ |
    ⟨i, j, -, -, -, e⟩ | ⟨i, j, -, -, -, e⟩
  all_goals
    rw [e]
    exact ⟨rfl, rfl, rfl, rfl⟩

/-- While busy only `CTRL` and `STATUS` take a write; the guarded writes are dropped (spec/20_memory.md R64). -/
theorem writeWord_busy_cases {s : State} (hb : s.busy = true) (off : Nat) (v : Word) :
    s.writeWord off v = s ∨ s.writeWord off v = { s with werr := true } ∨ s.writeWord off v = s.writeCtrl v ∨
    s.writeWord off v = s.writeStatus v := by
  have hidle : s.busy ≠ false := by simp [hb]
  rcases writeWord_cases s off v with e | ⟨-, e⟩ | ⟨-, e⟩ | ⟨-, e⟩ | ⟨-, h, -⟩ | ⟨-, h, -⟩ | ⟨i, j, -, h, -⟩ |
    ⟨i, j, -, h, -⟩ | ⟨i, j, -, h, -⟩
  · exact .inl e
  · exact .inr (.inl e)
  · exact .inr (.inr (.inl e))
  · exact .inr (.inr (.inr e))
  all_goals exact absurd h hidle

theorem writeWord_busy_sameCommandInFlight {s : State} (hb : s.busy = true) (off : Nat) (v : Word) :
    (s.writeWord off v).SameCommandInFlight s := by
  rcases writeWord_busy_cases hb off v with e | e | e | e
  all_goals
    rw [e]
    exact ⟨rfl, rfl, rfl, rfl⟩

end Sys2Proof.Machine
end

section
/-! PROOF. The statements of spec/10_state.md: the state invariant (R37), the result flags (R28, R35), reset (R45), the
frozen arguments and results (R26), launch and completion (R40 to R42), and the layout of the control registers. -/

namespace Sys2Proof.Machine

/-! ### The state invariant -/

/-- The register encoding of the identity has zero coordinates (spec/10_state.md R33). -/
theorem pointResult_zero_of_inf (P : Option Point) (h : (pointResult P).inf = true) :
    (pointResult P).x = 0 ∧ (pointResult P).y = 0 := by
  match P with
  | none => exact ⟨rfl, rfl⟩
  | some .infinity => exact ⟨rfl, rfl⟩
  | some (.affine x y) => exact absurd h nofun

/-- A completion without a negative zero meets the invariant whatever stood in the registers before. -/
theorem commit_coherent (s : State) {o : CmdOutcome} (hx : o.xneg = true → o.r1 ≠ 0)
    (hy : o.yneg = true → o.r2 ≠ 0) : (s.commit o).Coherent := by
  refine ⟨nofun, nofun, fun k => ?_, hx, hy⟩
  rw [commit_pr_get]
  match k with
  | 0 => exact pointResult_zero_of_inf o.pr0
  | 1 => exact pointResult_zero_of_inf o.pr1

theorem engineTurn_keeps_coherent {s t : State} (h : s.Coherent) (he : engineTurn s = .next t) : t.Coherent := by
  rcases engineTurn_cases he with ⟨-, rfl⟩ | ⟨-, i, -, hi⟩ | ⟨-, e, -, rfl⟩
  · exact h
  · obtain ⟨o, ho, rfl⟩ := exec_next_flagsAllowed hi
    exact commit_coherent s (fun hx => (ho.xneg hx).2) fun hy => (ho.yneg hy).2
  · exact commit_coherent s nofun nofun

/-- A launch clears `DONE`, `RC` and `WARN` as it sets `BUSY` (spec/10_state.md R40). -/
theorem launch_keeps_coherent {s : State} (h : s.Coherent) (w : Word) : (s.launch w).Coherent := by
  obtain ⟨-, -, hpr, hx, hy⟩ := h
  exact ⟨fun _ => rfl, fun _ => ⟨rfl, rfl⟩, hpr, hx, hy⟩

/-- A `STATUS` write can clear `DONE` but never set it (spec/20_memory.md R63). -/
theorem writeStatus_keeps_coherent {s : State} (h : s.Coherent) (v : Word) : (s.writeStatus v).Coherent := by
  obtain ⟨hdone, hrc, hpr, hx, hy⟩ := h
  refine ⟨fun hb => ?_, hrc, hpr, hx, hy⟩
  rw [State.writeStatus_done, hdone hb, Bool.false_and]

theorem writeWord_keeps_coherent {s : State} (h : s.Coherent) (off : Nat) (v : Word) :
    (s.writeWord off v).Coherent := by
  rcases writeWord_cases s off v with e | ⟨-, e⟩ | ⟨-, e⟩ | ⟨-, e⟩ | ⟨-, -, e⟩ | ⟨-, -, e⟩ | ⟨i, j, -, -, -, e⟩ |
    ⟨i, j, -, -, -, e⟩ | ⟨i, j, -, -, -, e⟩
  · rwa [e]
  · rw [e]; exact h
  · rw [e]; exact h
  · rw [e]; exact writeStatus_keeps_coherent h v
  · rw [e]; exact launch_keeps_coherent h v
  · rw [e]; exact h
  · rw [e]; exact h
  · rw [e]; exact h
  · rw [e]; exact h

theorem resetCore_coherent (s : State) : s.resetCore.Coherent := by
  refine ⟨nofun, nofun, fun k => ?_, nofun, nofun⟩
  simp [State.reset, PointReg.zero]

/-- Settles O28, agent by agent: a completion establishes the invariant anew, a launch and a `STATUS` write keep it, the
other host moves touch none of its registers, and a reset establishes it. -/
theorem everyStepKeepsCoherence : Obligations.EveryStepKeepsCoherence := by
  intro s t h hstep
  have hpop : s.popScript.Coherent := h
  rcases step_cases s t hstep with ⟨-, he⟩ | ⟨es, -, he⟩ | ⟨off, es, -, -, -, rfl⟩ | ⟨off, v, es, -, -, -, rfl⟩ |
    ⟨es, -, rfl⟩
  · exact engineTurn_keeps_coherent h he
  · exact engineTurn_keeps_coherent hpop he
  · exact hpop
  · exact writeWord_keeps_coherent hpop off v
  · exact resetCore_coherent _

/-- Settles O27: a reset state is the reset of any state, itself included. -/
theorem resetMeetsTheInvariants : Obligations.ResetMeetsTheInvariants := by
  have hreset (s : State) : s.resetCore.Coherent ∧ s.resetCore.FitsWidth := ⟨resetCore_coherent s, resetCore_fitsWidth s⟩
  obtain ⟨hcoherent, hfits⟩ := hreset State.reset
  exact ⟨hcoherent, hfits, hreset⟩

/-! ### Result flags -/

/-- Settles O13: a completion shows the flags of its outcome, and those are the ones the command may set. -/
theorem onlyDhWarnsAndOnlyXgcdSetsSigns : Obligations.OnlyDhWarnsAndOnlyXgcdSetsSigns := by
  intro i s t he
  obtain ⟨o, ho, rfl⟩ := exec_next_flagsAllowed he
  exact ⟨ho.warn, fun hx => (ho.xneg hx).1, fun hy => (ho.yneg hy).1⟩

/-! ### Reset -/

@[simp] theorem flagAt_false (n : Nat) : flagAt false n = 0 := rfl

@[simp] theorem slotRead_zero (s : State) (j : Nat) : s.slotRead 0 j = 0 := by
  simp [State.slotRead, getWord]

@[simp] theorem resetCore_ctrlWord (s : State) : s.resetCore.ctrlWord = 0 := rfl

@[simp] theorem resetCore_statusWord (s : State) : s.resetCore.statusWord = 0 := by
  simp [State.statusWord, State.reset, RC.code]

@[simp] theorem resetCore_painfWord (s : State) : s.resetCore.painfWord = 0 := by
  simp [State.painfWord, State.reset, PointReg.zero]

@[simp] theorem resetCore_rflagsWord (s : State) : s.resetCore.rflagsWord = 0 := by
  simp [State.rflagsWord, State.reset, PointReg.zero]

theorem resetCore_readWord_id (s : State) : s.resetCore.readWord 0x000 = BitVec.ofNat 32 (0x4D450100 + s.NW) := rfl

/-- Every register but `ID` holds 0, so every place but that of `ID` reads 0 (spec/10_state.md R45). -/
theorem resetCore_readWord_of_ne_id (s : State) (off : Nat) (hoff : off ≠ 0) : s.resetCore.readWord off = 0 := by
  have hplaces := locate_cases off
  unfold State.readWord
  cases hplace : locate off with
  | id => exact absurd (by simpa [hplace] using hplaces) hoff
  | ctrl | status | painf | rflags => simp
  | cmd | reserved => rfl
  | arg | res => simp [State.reset]
  | argX | argY | resX | resY => simp [State.reset, PointReg.zero]

/-- Settles O15: the reset move needs no condition, and its state reads zero place by place. -/
theorem resetClearsEveryRegister : Obligations.ResetClearsEveryRegister := by
  intro s es hscript
  refine ⟨s.popScript.resetCore, step_cons s .reset es hscript, ?_, rfl, rfl, resetCore_readWord_id _,
    resetCore_readWord_of_ne_id _⟩
  rw [State.resetCore_script, State.popScript_script, hscript, List.tail_cons]

/-! ### A command in flight -/

/-- Settles O26: the moves left are host accesses, and a read changes no register, a write while busy neither what the
command reads nor a result, a write while idle no result. -/
theorem busyFreezesArgumentsAndResults : Obligations.BusyFreezesArgumentsAndResults := by
  intro s t hstep
  refine ⟨fun hb hnil hengine hreset => ?_, fun hb hreset => ?_⟩
  · rcases step_cases s t hstep with ⟨hs, -⟩ | ⟨es, hs, -⟩ | ⟨off, es, -, -, -, rfl⟩ | ⟨off, v, es, -, -, -, rfl⟩ |
      ⟨es, hs, -⟩
    · exact absurd hs hnil
    · exact absurd (congrArg List.head? hs) hengine
    · exact ⟨hb, rfl, rfl, rfl, rfl, rfl, rfl, rfl⟩
    · obtain ⟨hbusy, hlatch, ha, hpa⟩ := writeWord_busy_sameCommandInFlight (s := s.popScript) hb off v
      exact ⟨hbusy.trans hb, hlatch, ha, hpa, writeWord_sameResultRegisters s.popScript off v⟩
    · exact absurd (congrArg List.head? hs) hreset
  · rcases step_cases s t hstep with ⟨-, he⟩ | ⟨es, -, he⟩ | ⟨off, es, -, -, -, rfl⟩ | ⟨off, v, es, -, -, -, rfl⟩ |
      ⟨es, hs, -⟩
    · obtain rfl := Host.Outcome.next.inj ((engineTurn_idle s hb).symm.trans he)
      exact ⟨rfl, rfl, rfl, rfl⟩
    · obtain rfl := Host.Outcome.next.inj ((engineTurn_idle s.popScript hb).symm.trans he)
      exact ⟨rfl, rfl, rfl, rfl⟩
    · exact ⟨rfl, rfl, rfl, rfl⟩
    · exact writeWord_sameResultRegisters s.popScript off v
    · exact absurd (congrArg List.head? hs) hreset

/-! ### Launch and completion -/

theorem popScript_eq_of_cons {s : State} {e : Event} {es : List Event} (h : s.script = e :: es) :
    s.popScript = { s with script := es } := by
  rw [State.popScript, h, List.tail_cons]

/-- A turn of the engine with a legal word latched is the command's completion. -/
theorem engineTurn_eq_exec {s : State} {i : Instr} (hb : s.busy = true) (hd : decode s.cmdLatch = .ok i) :
    engineTurn s = exec i s := by
  rw [engineTurn_busy s hb, completeLatched_ok s i hd]

/-- A script that begins with the engine's move gives the engine its turn. -/
theorem step_engine {s : State} {es : List Event} (h : s.script = .engine :: es) :
    step s = engineTurn { s with script := es } := by
  rw [step_cons s .engine es h, popScript_eq_of_cons h]
  rfl

/-- Settles O4: both ways the engine comes to move are its turn, which completes the latched word. -/
theorem busyStepRunsTheDecodedCommand : Obligations.BusyStepRunsTheDecodedCommand := by
  intro s i hb hd
  refine ⟨fun hnil => ?_, fun es hes => ?_⟩
  · rw [step_nil s hnil, engineTurn_eq_exec hb hd]
  · rw [step_engine hes, engineTurn_eq_exec (s := { s with script := es }) hb hd]

theorem decode_encode (i : Instr) : decode (encode i) = .ok i := by
  cases i <;> rfl

/-- All 32 bits of the table's word are the command word. -/
theorem withFetchWord_word (s : State) (w : Word) : s.withFetchWord 32 w.toNat = s.withLaunched w := by
  rw [State.withFetchWord, Nat.mod_eq_of_lt w.isLt, BitVec.ofNat_toNat, BitVec.setWidth_eq]

/-- Settles O5: the engine's move that was put first is taken off again, which leaves the launched state. -/
theorem placedCommandRunsAtTheNextStep : Obligations.PlacedCommandRunsAtTheNextStep := by
  intro s i
  rw [withFetchWord_word, step_engine (State.withLaunched_script s (encode i))]
  exact engineTurn_eq_exec (s := s.launch (encode i)) rfl (decode_encode i)

/-- Settles O7: `CMD` is a guarded location, and an idle core performs the write. -/
theorem cmdWriteWhileIdleLaunches : Obligations.CmdWriteWhileIdleLaunches := by
  intro s w hb
  rw [State.writeWord, locate_cmd]
  exact guarded_idle s (s.launch w) hb

/-- Settles O8, field by field; the point registers hold the encoding of what the outcome gives. -/
theorem completionRewritesEveryResult : Obligations.CompletionRewritesEveryResult := by
  intro s o x y
  have hpr0 {P : Option Point} (h : o.pr0 = P) : (s.commit o).pr.get 0 = pointResult P := h ▸ commit_pr_get s o 0
  have hpr1 {P : Option Point} (h : o.pr1 = P) : (s.commit o).pr.get 1 = pointResult P := h ▸ commit_pr_get s o 1
  exact ⟨rfl, rfl, rfl, hpr0, hpr0, hpr0, hpr1, hpr1, hpr1, rfl, rfl, rfl, rfl, rfl, rfl, commit_sameOutsideResults s o⟩

/-! ### The layout of the control registers -/

theorem flagAt_toNat (b : Bool) {n : Nat} (hn : n < 32) : (flagAt b n).toNat = 2 ^ n * b.toNat := by
  cases b with
  | false => simp
  | true => simp [flagAt, BitVec.toNat_twoPow, Nat.mod_eq_of_lt (Nat.pow_lt_pow_right (by decide : 1 < 2) hn)]

/-- A field placed above every bit of the word is added to it. -/
theorem or_toNat_of_lt {x y : Word} {n k : Nat} (hx : x.toNat < 2 ^ n) (hy : y.toNat = 2 ^ n * k) :
    (x ||| y).toNat = x.toNat + 2 ^ n * k := by
  rw [BitVec.toNat_or, hy, Nat.or_comm, ← Nat.two_pow_add_eq_or_of_lt hx, Nat.add_comm]

/-- The word is the number `v` and has no bit at or above bit `n`. -/
structure HasLowBits (x : Word) (n v : Nat) : Prop where
  toNat_eq : x.toNat = v
  lt : v < 2 ^ n

theorem flagAt_zero_hasLowBits (b : Bool) : HasLowBits (flagAt b 0) 1 b.toNat where
  toNat_eq := by rw [flagAt_toNat b (by decide), pow_zero, one_mul]
  lt := b.toNat_lt

/-- A word of flags is built from bit 0 upward, with reserved bits left between the flags. -/
theorem HasLowBits.or_flagAt {x : Word} {n v : Nat} (h : HasLowBits x n v) (b : Bool) (k : Nat)
    (hnk : n ≤ k := by decide) (hk : k < 32 := by decide) : HasLowBits (x ||| flagAt b k) (k + 1) (v + 2 ^ k * b.toNat) := by
  have hv : v < 2 ^ k := h.lt.trans_le (Nat.pow_le_pow_right (by decide) hnk)
  refine ⟨?_, ?_⟩
  · rw [or_toNat_of_lt (h.toNat_eq ▸ hv) (flagAt_toNat b hk), h.toNat_eq]
  · calc v + 2 ^ k * b.toNat
        < 2 ^ k + 2 ^ k * b.toNat := Nat.add_lt_add_right hv _
      _ ≤ 2 ^ k + 2 ^ k * 1 := Nat.add_le_add_left (Nat.mul_le_mul_left _ b.toNat_le) _
      _ = 2 ^ (k + 1) := by ring

theorem rcField_toNat (rc : RC) : (BitVec.ofNat 32 rc.code <<< 4).toNat = 2 ^ 4 * rc.code := by
  cases rc <;> rfl

theorem idWord_toNat (s : State) : s.idWord.toNat = 0x4D450100 + s.NW := by
  have hNW : s.NW ≤ 16 := s.nwIndex.isLt
  rw [State.idWord, BitVec.toNat_ofNat, Config.idHigh]
  omega

theorem statusWord_toNat (s : State) : s.statusWord.toNat =
    s.busy.toNat + 2 * s.done.toNat + 4 * s.warn.toNat + 8 * s.werr.toNat + 16 * s.rc.code := by
  have hflags := (((flagAt_zero_hasLowBits s.busy).or_flagAt s.done 1).or_flagAt s.warn 2).or_flagAt s.werr 3
  rw [State.statusWord, or_toNat_of_lt (hflags.toNat_eq ▸ hflags.lt) (rcField_toNat s.rc), hflags.toNat_eq]
  rfl

theorem painfWord_toNat (s : State) : s.painfWord.toNat =
    (s.pa.get 0).inf.toNat + 2 * (s.pa.get 1).inf.toNat + 4 * (s.pa.get 2).inf.toNat :=
  (((flagAt_zero_hasLowBits _).or_flagAt _ 1).or_flagAt _ 2).toNat_eq

theorem rflagsWord_toNat (s : State) : s.rflagsWord.toNat =
    (s.pr.get 0).inf.toNat + 2 * (s.pr.get 1).inf.toNat + 256 * s.xneg.toNat + 512 * s.yneg.toNat :=
  ((((flagAt_zero_hasLowBits _).or_flagAt _ 1).or_flagAt _ 8).or_flagAt _ 9).toNat_eq

/-- Settles O19: each register is a sum of disjoint fields; the numbers of the codes are those of `RC.code`. -/
theorem controlRegisterLayout : Obligations.ControlRegisterLayout := by
  intro s
  refine ⟨idWord_toNat s, (flagAt_zero_hasLowBits s.ie).toNat_eq, ?_, painfWord_toNat s, rflagsWord_toNat s⟩
  rw [statusWord_toNat]
  cases s.rc <;> rfl

end Sys2Proof.Machine
end

section
/-! PROOF. The registers by name, and the words of the window that hold them (spec/20_memory.md R61 to R65): what a word
write puts into a register, what a slot's word reads as, and what a write of an argument word leaves alone. -/

namespace Sys2Proof.Machine

/-! ### Words of a register -/

/-- The three parts of the register after a word write share no bit. -/
theorem setWord_eq_or (u j : Nat) (w : Word) :
    setWord u j w = u >>> (32 * (j + 1)) <<< (32 * (j + 1)) ||| (w.toNat <<< (32 * j) ||| u % 2 ^ (32 * j)) := by
  have hlow : u % 2 ^ (32 * j) < 2 ^ (32 * j) := Nat.mod_lt _ (by positivity)
  have hword : w.toNat <<< (32 * j) + u % 2 ^ (32 * j) < 2 ^ (32 * (j + 1)) := by
    rw [Nat.shiftLeft_eq, Nat.mul_comm, Nat.mul_add_one, pow_add, Nat.mul_comm (2 ^ (32 * j)) (2 ^ 32)]
    exact Nat.mul_add_lt_mul_of_lt_of_lt w.isLt hlow
  rw [setWord, Nat.add_assoc, Nat.shiftLeft_add_eq_or_of_lt hword, Nat.shiftLeft_add_eq_or_of_lt hlow]

/-- A word write replaces the 32 bits of its word and keeps every other bit of the register (spec/20_memory.md
R63 (e)). -/
theorem setWord_testBit (u j b : Nat) (w : Word) :
    (setWord u j w).testBit b = if b / 32 = j then w.getLsbD (b % 32) else u.testBit b := by
  simp only [setWord_eq_or, Nat.testBit_or, Nat.testBit_shiftLeft, Nat.testBit_shiftRight, Nat.testBit_mod_two_pow,
    BitVec.testBit_toNat]
  rcases lt_trichotomy (b / 32) j with hb | rfl | hb
  · simp [show ¬ 32 * j ≤ b by omega, show ¬ 32 * (j + 1) ≤ b by omega, show b < 32 * j by omega, hb.ne]
  · simp [show 32 * (b / 32) ≤ b by omega, show ¬ 32 * (b / 32 + 1) ≤ b by omega, show ¬ b < 32 * (b / 32) by omega,
      show b - 32 * (b / 32) = b % 32 by omega]
  · have hword : w.getLsbD (b - 32 * j) = false := BitVec.getLsbD_of_ge w _ (by omega)
    simp [show 32 * (j + 1) ≤ b by omega, show ¬ b < 32 * j by omega, hb.ne', hword]

theorem getWord_getLsbD (u j k : Nat) (hk : k < 32) : (getWord u j).getLsbD k = u.testBit (32 * j + k) := by
  rw [getWord, BitVec.getLsbD_ofNat, Nat.testBit_shiftRight, decide_eq_true hk, Bool.true_and]

theorem getWord_setWord_same (u j : Nat) (w : Word) : getWord (setWord u j w) j = w := by
  ext k hk
  rw [← BitVec.getLsbD_eq_getElem, ← BitVec.getLsbD_eq_getElem, getWord_getLsbD _ _ _ hk, setWord_testBit,
    if_pos (by omega), show (32 * j + k) % 32 = k by omega]

theorem getWord_setWord_of_ne (u : Nat) {j k : Nat} (w : Word) (h : k ≠ j) :
    getWord (setWord u j w) k = getWord u k := by
  ext b hb
  rw [← BitVec.getLsbD_eq_getElem, ← BitVec.getLsbD_eq_getElem, getWord_getLsbD _ _ _ hb, getWord_getLsbD _ _ _ hb,
    setWord_testBit, if_neg (by omega)]

/-- The register after the writes of the words `js` of `v`, in that order (spec/30_encoding.md R87). -/
def loadWords (v : Nat) (js : List Nat) (u : Nat) : Nat := js.foldl (fun u j => setWord u j (getWord v j)) u

/-- The words written are those of `v`, the others are as they were. -/
theorem loadWords_testBit (v : Nat) (js : List Nat) (u b : Nat) :
    (loadWords v js u).testBit b = if b / 32 ∈ js then v.testBit b else u.testBit b := by
  induction js generalizing u with
  | nil => rfl
  | cons j js ih =>
    have hword : (getWord v (b / 32)).getLsbD (b % 32) = v.testBit b := by
      rw [getWord_getLsbD _ _ _ (Nat.mod_lt _ (by decide)), Nat.div_add_mod]
    have hstep : loadWords v (j :: js) u = loadWords v js (setWord u j (getWord v j)) := rfl
    rw [hstep, ih, setWord_testBit]
    by_cases hj : b / 32 = j
    · simp [← hj, hword]
    · simp [hj]

/-- All words of a register that fits make the whole register. -/
theorem loadWords_range {u v n : Nat} (hu : u < 2 ^ (32 * n)) (hv : v < 2 ^ (32 * n)) :
    loadWords v (List.range n) u = v := by
  apply Nat.eq_of_testBit_eq
  intro b
  rw [loadWords_testBit]
  by_cases hb : b / 32 < n
  · rw [if_pos (List.mem_range.2 hb)]
  · have hwidth : 2 ^ (32 * n) ≤ 2 ^ b := Nat.pow_le_pow_right (by decide) (by omega)
    rw [if_neg (hb ∘ List.mem_range.1), Nat.testBit_lt_two_pow (hu.trans_le hwidth),
      Nat.testBit_lt_two_pow (hv.trans_le hwidth)]

/-! ### Registers by name -/

/-- What stands at word `j` of a register's slot (spec/20_memory.md R65). -/
def RegName.place (reg : RegName) (j : Nat) : Place :=
  match reg with
  | .a i => .arg i j
  | .paX i => .argX i j
  | .paY i => .argY i j
  | .r i => .res i j
  | .prX i => .resX i j
  | .prY i => .resY i j

/-- The argument registers, which the host may write (spec/20_memory.md R63 (e)). -/
def RegName.IsArgument : RegName → Prop
  | .a _ | .paX _ | .paY _ => True
  | .r _ | .prX _ | .prY _ => False

/-- The value of a register. -/
def State.regValue (s : State) : RegName → Nat
  | .a i => s.a.get i
  | .paX i => (s.pa.get i).x
  | .paY i => (s.pa.get i).y
  | .r i => s.r.get i
  | .prX i => (s.pr.get i).x
  | .prY i => (s.pr.get i).y

/-- The state with another value in an argument register; no host write reaches a result register. -/
def State.setReg (s : State) (reg : RegName) (n : Nat) : State :=
  match reg with
  | .a i => { s with a := s.a.set i.val n i.isLt }
  | .paX i => { s with pa := s.pa.set i.val { s.pa.get i with x := n } i.isLt }
  | .paY i => { s with pa := s.pa.set i.val { s.pa.get i with y := n } i.isLt }
  | .r _ | .prX _ | .prY _ => s

theorem vector_get_set_same {α : Type} {n : Nat} (v : Vector α n) (x : α) (i : Fin n) :
    (v.set i.val x i.isLt).get i = x := by
  rw [Vector.get_eq_getElem, Vector.getElem_set_self]

theorem vector_get_set_of_ne {α : Type} {n : Nat} (v : Vector α n) (x : α) {i k : Fin n} (h : i ≠ k) :
    (v.set i.val x i.isLt).get k = v.get k := by
  rw [Vector.get_eq_getElem, Vector.getElem_set_ne _ _ (Fin.val_ne_of_ne h), Vector.get_eq_getElem]

theorem vector_set_get {α : Type} {n : Nat} (v : Vector α n) (i : Fin n) : v.set i.val (v.get i) i.isLt = v := by
  rw [Vector.get_eq_getElem, Vector.set_getElem_self]

/-- A part of the entries that the new entry keeps is kept everywhere. -/
theorem vector_get_set_of_part_eq {α β : Type} {n : Nat} (part : α → β) (v : Vector α n) (x : α) (i k : Fin n)
    (hx : part x = part (v.get i)) : part ((v.set i.val x i.isLt).get k) = part (v.get k) := by
  by_cases h : i = k
  · rw [← h, vector_get_set_same, hx]
  · rw [vector_get_set_of_ne v x h]

theorem regValue_setReg_same (s : State) {reg : RegName} (hreg : reg.IsArgument) (n : Nat) :
    (s.setReg reg n).regValue reg = n := by
  cases reg with
  | a i => exact vector_get_set_same _ _ i
  | paX i => exact congrArg PointReg.x (vector_get_set_same _ _ i)
  | paY i => exact congrArg PointReg.y (vector_get_set_same _ _ i)
  | r | prX | prY => exact hreg.elim

theorem regValue_setReg_of_ne (s : State) {reg other : RegName} (h : reg ≠ other) (n : Nat) :
    (s.setReg reg n).regValue other = s.regValue other := by
  cases reg with
  | a i =>
    cases other with
    | a k => exact vector_get_set_of_ne _ _ (ne_of_apply_ne RegName.a h)
    | paX | paY | r | prX | prY => rfl
  | paX i =>
    cases other with
    | paX k => exact congrArg PointReg.x (vector_get_set_of_ne _ _ (ne_of_apply_ne RegName.paX h))
    | paY k => exact vector_get_set_of_part_eq PointReg.y _ _ i k rfl
    | a | r | prX | prY => rfl
  | paY i =>
    cases other with
    | paX k => exact vector_get_set_of_part_eq PointReg.x _ _ i k rfl
    | paY k => exact congrArg PointReg.y (vector_get_set_of_ne _ _ (ne_of_apply_ne RegName.paY h))
    | a | r | prX | prY => rfl
  | r | prX | prY => rfl

/-- Nothing but the argument registers changes (spec/20_memory.md R63 (e)). -/
theorem setReg_eq (s : State) (reg : RegName) (n : Nat) :
    s.setReg reg n = { s with a := (s.setReg reg n).a, pa := (s.setReg reg n).pa } := by
  cases reg <;> rfl

/-- The `INF` bits stand in `PAINF`, not in the coordinates' slots (spec/10_state.md R32). -/
theorem setReg_inf (s : State) (reg : RegName) (n : Nat) (k : Fin 3) :
    ((s.setReg reg n).pa.get k).inf = (s.pa.get k).inf := by
  cases reg with
  | paX i | paY i => exact vector_get_set_of_part_eq PointReg.inf _ _ i k rfl
  | a | r | prX | prY => rfl

theorem setReg_painfWord (s : State) (reg : RegName) (n : Nat) : (s.setReg reg n).painfWord = s.painfWord := by
  simp only [State.painfWord, setReg_inf]

/-! ### The slots of the window -/

theorem locate_slot (reg : RegName) {j : Nat} (hj : j < 16) : locate (slotBase reg + 4 * j) = reg.place j := by
  cases reg with
  | a i => exact locate_arg i j hj
  | paX i => exact locate_argX i j hj
  | paY i => exact locate_argY i j hj
  | r i => exact locate_res i j hj
  | prX i => exact locate_resX i j hj
  | prY i => exact locate_resY i j hj

/-- An aligned offset names a control word, a word of a slot or a reserved word (spec/20_memory.md R61). -/
theorem aligned_offset_cases {off : Nat} (hal : off % 4 = 0) :
    off ∈ [0x000, 0x004, 0x008, 0x00C, 0x010, 0x014] ∨ (∃ reg j, j < 16 ∧ off = slotBase reg + 4 * j) ∨
    locate off = .reserved := by
  have hword : off - off % 4 = off := by rw [hal, Nat.sub_zero]
  rcases locate_cases off with ⟨-, h⟩ | ⟨-, h⟩ | ⟨-, h⟩ | ⟨-, h⟩ | ⟨-, h⟩ | ⟨-, h⟩ | ⟨i, j, -, hj, h⟩ | ⟨i, j, -, hj, h⟩ |
    ⟨i, j, -, hj, h⟩ | ⟨i, j, -, hj, h⟩ | ⟨i, j, -, hj, h⟩ | ⟨i, j, -, hj, h⟩ | h
  iterate 6 exact .inl (by simp [h])
  · exact .inr (.inl ⟨.a i, j, hj, hword.symm.trans h⟩)
  · exact .inr (.inl ⟨.paX i, j, hj, hword.symm.trans h⟩)
  · exact .inr (.inl ⟨.paY i, j, hj, hword.symm.trans h⟩)
  · exact .inr (.inl ⟨.r i, j, hj, hword.symm.trans h⟩)
  · exact .inr (.inl ⟨.prX i, j, hj, hword.symm.trans h⟩)
  · exact .inr (.inl ⟨.prY i, j, hj, hword.symm.trans h⟩)
  · exact .inr (.inr h)

theorem readWord_slot (s : State) (reg : RegName) {j : Nat} (hj : j < 16) :
    s.readWord (slotBase reg + 4 * j) = s.slotRead (s.regValue reg) j := by
  rw [State.readWord, locate_slot reg hj]
  cases reg <;> rfl

theorem readWord_reserved (s : State) {off : Nat} (h : locate off = .reserved) : s.readWord off = 0 := by
  rw [State.readWord, h]

/-- Only the width decides which words of a slot exist. -/
theorem slotRead_setReg (s : State) (reg : RegName) (n u j : Nat) : (s.setReg reg n).slotRead u j = s.slotRead u j := by
  rw [setReg_eq]
  rfl

theorem slotRead_toNat (s : State) (u j : Nat) :
    (s.slotRead u j).toNat = if j < s.NW then u / 2 ^ (32 * j) % 2 ^ 32 else 0 := by
  rw [State.slotRead]
  split
  · rw [getWord, BitVec.toNat_ofNat, Nat.shiftRight_eq_div_pow]
  · rfl

theorem readWord_slot_toNat (s : State) (reg : RegName) {j : Nat} (hj : j < 16) :
    (s.readWord (slotBase reg + 4 * j)).toNat = if j < s.NW then s.regValue reg / 2 ^ (32 * j) % 2 ^ 32 else 0 := by
  rw [readWord_slot s reg hj, slotRead_toNat]

theorem State.NW_le (s : State) : s.NW ≤ 16 := s.nwIndex.isLt

/-- A write to an argument slot, below and above `NW` (spec/20_memory.md R63 (e), (f)). -/
theorem writeWord_slot (s : State) {reg : RegName} (hreg : reg.IsArgument) {j : Nat} (hj : j < 16) (v : Word) :
    s.writeWord (slotBase reg + 4 * j) v =
      if j < s.NW then s.guarded (s.setReg reg (setWord (s.regValue reg) j v)) else s := by
  rw [State.writeWord, locate_slot reg hj]
  cases reg with
  | a i | paX i | paY i => rfl
  | r | prX | prY => exact hreg.elim

theorem writeWord_slot_of_ge (s : State) {reg : RegName} (hreg : reg.IsArgument) {j : Nat} (hj : j < 16) (v : Word)
    (hNW : s.NW ≤ j) : s.writeWord (slotBase reg + 4 * j) v = s := by
  rw [writeWord_slot s hreg hj, if_neg (Nat.not_lt.2 hNW)]

theorem writeWord_slot_idle {s : State} (hb : s.busy = false) {reg : RegName} (hreg : reg.IsArgument) {j : Nat}
    (hj : j < s.NW) (v : Word) :
    s.writeWord (slotBase reg + 4 * j) v = s.setReg reg (setWord (s.regValue reg) j v) := by
  rw [writeWord_slot s hreg (hj.trans_le s.NW_le), if_pos hj, State.guarded_idle s _ hb]

theorem writeWord_slot_busy {s : State} (hb : s.busy = true) {reg : RegName} (hreg : reg.IsArgument) {j : Nat}
    (hj : j < s.NW) (v : Word) : s.writeWord (slotBase reg + 4 * j) v = { s with werr := true } := by
  rw [writeWord_slot s hreg (hj.trans_le s.NW_le), if_pos hj, State.guarded_busy s _ hb]

/-- No control word shows the value of a scalar-sized register. -/
theorem readWord_setReg_of_control (s : State) (reg : RegName) (n : Nat) {off : Nat}
    (hoff : off ∈ [0x000, 0x004, 0x008, 0x00C, 0x010, 0x014]) : (s.setReg reg n).readWord off = s.readWord off := by
  rw [setReg_eq]
  simp only [List.mem_cons, List.not_mem_nil, or_false] at hoff
  rcases hoff with rfl | rfl | rfl | rfl | rfl | rfl
  · rfl
  · rfl
  · rfl
  · rfl
  · exact setReg_painfWord s reg n
  · rfl

end Sys2Proof.Machine
end

section
/-! PROOF. The statements of spec/20_memory.md: host reads (R62) and writes (R63), the dropped write and `WERR` (R64), whole
registers (R65), and the accesses the port does not support (R60, R67). -/

namespace Sys2Proof.Machine

/-! ### The port -/

theorem step_read {s : State} {off : Nat} {es : List Event} (h : s.script = .read off 4 :: es) (hoff : off < 4096)
    (hal : off % 4 = 0) : step s = .next { s with script := es, readLog := s.readWord off :: s.readLog } := by
  rw [step_cons s _ es h, popScript_eq_of_cons h]
  exact portAccess_ok off 4 _ hoff hal rfl

theorem step_write {s : State} {off : Nat} {v : Word} {es : List Event} (h : s.script = .write off 4 v :: es)
    (hoff : off < 4096) (hal : off % 4 = 0) : step s = .next ({ s with script := es }.writeWord off v) := by
  rw [step_cons s _ es h, popScript_eq_of_cons h]
  exact portAccess_ok off 4 _ hoff hal rfl

/-- Settles O17: the port answers the aligned access inside the window. -/
theorem supportedWriteIsOneStep : Obligations.SupportedWriteIsOneStep := by
  intro s off v es hoff hal hscript
  exact step_write hscript hoff hal

theorem portAccess_refused (off bytes : Nat) (s : State) (hoff : off < 4096) (h : off % 4 ≠ 0 ∨ bytes ≠ 4) :
    portAccess off bytes s = .refused (.unsupportedAccess off bytes) := by
  have hal : alignedWord off bytes = false := by
    rw [Bool.eq_false_iff, ne_eq, alignedWord_iff]
    omega
  simp [portAccess, (inWindow_iff off).2 hoff, hal]

theorem portAccess_fault (off bytes : Nat) (s : State) (hoff : 4096 ≤ off) :
    portAccess off bytes s = .fault (.outsideWindow off) := by
  have hout : inWindow off = false := by
    rw [Bool.eq_false_iff, ne_eq, inWindow_iff]
    omega
  simp [portAccess, hout]

/-- A host access next in the script is an access at the port, read or write. -/
theorem step_access {s : State} {off bytes : Nat} {v : Word} {es : List Event}
    (h : s.script = .read off bytes :: es ∨ s.script = .write off bytes v :: es) :
    ∃ done, step s = portAccess off bytes done := by
  rcases h with h | h
  · exact ⟨_, step_cons s _ es h⟩
  · exact ⟨_, step_cons s _ es h⟩

/-- Settles O24: the port looks at the offset and the size before it does anything. -/
theorem portStopsOnUnsupportedAccess : Obligations.PortStopsOnUnsupportedAccess := by
  intro s off bytes v es hscript
  obtain ⟨done, hstep⟩ := step_access hscript
  rw [hstep]
  exact ⟨portAccess_refused off bytes done, portAccess_fault off bytes done⟩

/-! ### Reads -/

/-- The reserved ranges of the window, the addresses above the last slot among them (spec/20_memory.md R61). -/
theorem locate_reserved {off : Nat} (hal : off % 4 = 0)
    (h : (0x018 ≤ off ∧ off < 0x400) ∨ (0x640 ≤ off ∧ off < 0x800) ∨ (0x980 ≤ off ∧ off < 0xC00) ∨
      (0xCC0 ≤ off ∧ off < 0xE00) ∨ 0xF00 ≤ off) : locate off = .reserved := by
  rcases aligned_offset_cases hal with hctl | ⟨reg, j, hj, rfl⟩ | hres
  · simp only [List.mem_cons, List.not_mem_nil, or_false] at hctl
    omega
  · cases reg <;> simp only [slotBase] at h <;> omega
  · exact hres

/-- Settles O18: the port answers with `readWord`, and the address map says what that is, place by place. -/
theorem hostReadReturnsTheWordAndChangesNothing : Obligations.HostReadReturnsTheWordAndChangesNothing := by
  intro s
  refine ⟨fun off es hoff hal hscript => step_read hscript hoff hal, rfl, rfl, rfl, rfl, rfl, rfl, fun j hj => ?_,
    fun off hal _ hoff => readWord_reserved s (locate_reserved hal hoff)⟩
  exact ⟨fun i => readWord_slot_toNat s (.a i) hj, fun i => readWord_slot_toNat s (.paX i) hj,
    fun i => readWord_slot_toNat s (.paY i) hj, fun i => readWord_slot_toNat s (.r i) hj,
    fun i => readWord_slot_toNat s (.prX i) hj, fun i => readWord_slot_toNat s (.prY i) hj⟩

/-! ### Writes -/

theorem writeWord_ctrl (s : State) (v : Word) : s.writeWord 0x004 v = s.writeCtrl v := by
  rw [State.writeWord, locate_ctrl]

theorem writeWord_status (s : State) (v : Word) : s.writeWord 0x008 v = s.writeStatus v := by
  rw [State.writeWord, locate_status]

theorem writeWord_cmd (s : State) (v : Word) : s.writeWord 0x00C v = s.guarded (s.launch v) := by
  rw [State.writeWord, locate_cmd]

theorem writeWord_painf (s : State) (v : Word) : s.writeWord 0x010 v = s.guarded (s.writePainf v) := by
  rw [State.writeWord, locate_painf]

/-- A location that no command word, control bit or argument word stands at ignores a write (spec/20_memory.md
R63 (f)). -/
theorem writeWord_ignored (s : State) (v : Word) {off : Nat}
    (h : (0x018 ≤ off ∧ off < 0x400) ∨ (0x640 ≤ off ∧ off < 0x800) ∨ 0x980 ≤ off) : s.writeWord off v = s := by
  rw [State.writeWord]
  rcases locate_cases off with ⟨-, e⟩ | ⟨-, e⟩ | ⟨-, e⟩ | ⟨-, e⟩ | ⟨-, e⟩ | ⟨-, e⟩ | ⟨i, j, -, hj, e⟩ | ⟨i, j, -, hj, e⟩ |
    ⟨i, j, -, hj, e⟩ | ⟨i, j, e, -⟩ | ⟨i, j, e, -⟩ | ⟨i, j, e, -⟩ | e
  iterate 9 omega
  all_goals rw [e]

/-- Settles O20, location by location; `PAINF` is guarded, and the core is idle. -/
theorem hostWriteToControlAndReadOnlyLocations : Obligations.HostWriteToControlAndReadOnlyLocations := by
  intro s v
  refine ⟨writeWord_ctrl s v, writeWord_status s v, fun hb => ?_, rfl, rfl, fun off => writeWord_ignored s v,
    fun j hNW hj => ?_⟩
  · rw [writeWord_painf, State.guarded_idle s _ hb]
    refine ⟨fun i => ?_, rfl⟩
    match i with
    | 0 => exact ⟨rfl, rfl, rfl⟩
    | 1 => exact ⟨rfl, rfl, rfl⟩
    | 2 => exact ⟨rfl, rfl, rfl⟩
  · exact ⟨fun i => writeWord_slot_of_ge s (reg := .a i) trivial hj v hNW,
      fun i => writeWord_slot_of_ge s (reg := .paX i) trivial hj v hNW,
      fun i => writeWord_slot_of_ge s (reg := .paY i) trivial hj v hNW⟩

/-- A read of a slot's word after a write of a word of an argument register that is not that very word. -/
theorem readWord_slot_setReg_of_ne (s : State) {reg other : RegName} (hreg : reg.IsArgument) {j k : Nat} (hk : k < 16)
    (v : Word) (h : slotBase other + 4 * k ≠ slotBase reg + 4 * j) :
    (s.setReg reg (setWord (s.regValue reg) j v)).readWord (slotBase other + 4 * k) =
      s.readWord (slotBase other + 4 * k) := by
  rw [readWord_slot _ _ hk, readWord_slot _ _ hk]
  by_cases hregs : reg = other
  · subst hregs
    have hjk : k ≠ j := fun hjk => h (by rw [hjk])
    rw [regValue_setReg_same s hreg, slotRead_setReg, State.slotRead, getWord_setWord_of_ne _ v hjk, State.slotRead]
  · rw [regValue_setReg_of_ne s hregs, slotRead_setReg]

/-- Read after write and frame of one argument word, for whichever register it belongs to. -/
theorem argumentWord_write_read {s : State} (hb : s.busy = false) {reg : RegName} (hreg : reg.IsArgument) {j : Nat}
    (hj : j < s.NW) (v : Word) {off : Nat} (hoff : off = slotBase reg + 4 * j) :
    (s.writeWord off v).readWord off = v ∧
    (∀ off', off' % 4 = 0 → off' ≠ off → (s.writeWord off v).readWord off' = s.readWord off') ∧
    s.writeWord off v = { s with a := (s.writeWord off v).a, pa := (s.writeWord off v).pa } := by
  subst hoff
  rw [writeWord_slot_idle hb hreg hj]
  refine ⟨?_, fun off' hal hne => ?_, setReg_eq ..⟩
  · rw [readWord_slot _ _ (hj.trans_le s.NW_le), regValue_setReg_same s hreg, slotRead_setReg, State.slotRead, if_pos hj,
      getWord_setWord_same]
  · rcases aligned_offset_cases hal with hctl | ⟨other, k, hk, rfl⟩ | hres
    · exact readWord_setReg_of_control s reg _ hctl
    · exact readWord_slot_setReg_of_ne s hreg hk v hne
    · rw [readWord_reserved _ hres, readWord_reserved _ hres]

/-- Settles O21: the three forms of the offset are the slots of the three kinds of argument register. -/
theorem argumentWordWriteThenRead : Obligations.ArgumentWordWriteThenRead := by
  intro s v j off hb hj hoff
  rcases hoff with ⟨i, hoff⟩ | ⟨i, hoff⟩ | ⟨i, hoff⟩
  · exact argumentWord_write_read hb (reg := .a i) trivial hj v hoff
  · exact argumentWord_write_read hb (reg := .paX i) trivial hj v hoff
  · exact argumentWord_write_read hb (reg := .paY i) trivial hj v hoff

/-! ### The sticky write error -/

theorem engineTurn_sameOutsideResults {s t : State} (he : engineTurn s = .next t) : t.SameOutsideResults s := by
  rcases engineTurn_cases he with ⟨-, rfl⟩ | ⟨-, i, -, hi⟩ | ⟨-, e, -, rfl⟩
  · exact ⟨rfl, rfl, rfl, rfl, rfl, rfl, rfl, rfl⟩
  · obtain ⟨o, ho⟩ := exec_commits i s
    obtain rfl : s.commit o = t := Host.Outcome.next.inj (ho.symm.trans hi)
    exact commit_sameOutsideResults s o
  · exact commit_sameOutsideResults s _

/-- A write keeps `WERR`, or sets it as a dropped write does, or clears it through `STATUS` (spec/20_memory.md R64). -/
theorem writeWord_werr_cases (s : State) (off : Nat) (v : Word) :
    (s.writeWord off v).werr = s.werr ∨ (s.busy = true ∧ (s.writeWord off v).werr = true) ∨
    (off = 0x008 ∧ v.getLsbD 3 = true ∧ (s.writeWord off v).werr = false) := by
  rcases writeWord_cases s off v with e | ⟨hb, e⟩ | ⟨-, e⟩ | ⟨hoff, e⟩ | ⟨-, -, e⟩ | ⟨-, -, e⟩ | ⟨i, j, -, -, -, e⟩ |
    ⟨i, j, -, -, -, e⟩ | ⟨i, j, -, -, -, e⟩
  case inr.inl => exact .inr (.inl ⟨hb, congrArg State.werr e⟩)
  case inr.inr.inr.inl =>
    cases hv : v.getLsbD 3 with
    | false => exact .inl (by rw [e, State.writeStatus_werr, hv, Bool.not_false, Bool.and_true])
    | true => exact .inr (.inr ⟨hoff, rfl, by rw [e, State.writeStatus_werr, hv, Bool.not_true, Bool.and_false]⟩)
  all_goals exact .inl ((congrArg State.werr e).trans rfl)

/-- What a step can do to `WERR`. -/
theorem step_werr_cases {s t : State} (h : step s = .next t) :
    t.werr = s.werr ∨ (s.busy = true ∧ t.werr = true ∧ ∃ off v es, s.script = .write off 4 v :: es) ∨
    (t.werr = false ∧
      ((∃ v es, s.script = .write 0x008 4 v :: es ∧ v.getLsbD 3 = true) ∨ ∃ es, s.script = .reset :: es)) := by
  rcases step_cases s t h with ⟨-, he⟩ | ⟨es, -, he⟩ | ⟨off, es, -, -, -, rfl⟩ | ⟨off, v, es, hs, -, -, rfl⟩ |
    ⟨es, hs, rfl⟩
  · obtain ⟨-, -, hwerr, -⟩ := engineTurn_sameOutsideResults he
    exact .inl hwerr
  · obtain ⟨-, -, hwerr, -⟩ := engineTurn_sameOutsideResults he
    exact .inl hwerr
  · exact .inl rfl
  · rcases writeWord_werr_cases s.popScript off v with hw | ⟨hb, hw⟩ | ⟨rfl, hv, hw⟩
    · exact .inl hw
    · exact .inr (.inl ⟨hb, hw, off, v, es, hs⟩)
    · exact .inr (.inr ⟨hw, .inl ⟨v, es, hs, hv⟩⟩)
  · exact .inr (.inr ⟨rfl, .inr ⟨es, hs⟩⟩)

/-- Settles O22: a guarded write sees `BUSY`, and of a step's moves only a host write and a reset reach `WERR`. -/
theorem droppedWritesSetTheStickyWriteError : Obligations.DroppedWritesSetTheStickyWriteError := by
  refine ⟨fun s v hb => ?_, fun s t hstep => ⟨fun hlow hhigh => ?_, fun hhigh hlow => ?_⟩⟩
  · exact ⟨(writeWord_cmd s v).trans (State.guarded_busy s _ hb),
      (writeWord_painf s v).trans (State.guarded_busy s _ hb),
      fun j hj => ⟨fun i => writeWord_slot_busy hb (reg := .a i) trivial hj v,
        fun i => writeWord_slot_busy hb (reg := .paX i) trivial hj v,
        fun i => writeWord_slot_busy hb (reg := .paY i) trivial hj v⟩⟩
  · rcases step_werr_cases hstep with hkeep | ⟨hb, -, hwrite⟩ | ⟨hclear, -⟩
    · simp [hlow, hhigh] at hkeep
    · exact ⟨hb, hwrite⟩
    · simp [hhigh] at hclear
  · rcases step_werr_cases hstep with hkeep | ⟨-, hset, -⟩ | ⟨-, hwhy⟩
    · simp [hlow, hhigh] at hkeep
    · simp [hlow] at hset
    · exact hwhy

/-! ### Supported scripts -/

theorem writeWord_script (s : State) (off : Nat) (v : Word) : (s.writeWord off v).script = s.script := by
  rcases writeWord_cases s off v with e | ⟨-, e⟩ | ⟨-, e⟩ | ⟨-, e⟩ | ⟨-, -, e⟩ | ⟨-, -, e⟩ | ⟨i, j, -, -, -, e⟩ |
    ⟨i, j, -, -, -, e⟩ | ⟨i, j, -, -, -, e⟩
  all_goals exact (congrArg State.script e).trans rfl

/-- A step takes one move off the script. -/
theorem step_script {s t : State} (h : step s = .next t) : t.script = s.script.tail := by
  rcases step_cases s t h with ⟨hs, he⟩ | ⟨es, -, he⟩ | ⟨off, es, -, -, -, rfl⟩ | ⟨off, v, es, -, -, -, rfl⟩ |
    ⟨es, -, rfl⟩
  · obtain ⟨-, -, -, -, -, -, hscript, -⟩ := engineTurn_sameOutsideResults he
    rw [hscript, hs, List.tail_nil]
  · obtain ⟨-, -, -, -, -, -, hscript, -⟩ := engineTurn_sameOutsideResults he
    exact hscript
  · rfl
  · exact writeWord_script s.popScript off v
  · rfl

theorem engineTurn_answers (s : State) : ∃ t, engineTurn s = .next t := by
  cases hb : s.busy with
  | false => exact ⟨s, engineTurn_idle s hb⟩
  | true =>
    rw [engineTurn_busy s hb]
    cases hd : decode s.cmdLatch with
    | ok i =>
      obtain ⟨o, ho⟩ := exec_commits i s
      exact ⟨_, (completeLatched_ok s i hd).trans ho⟩
    | error e => exact ⟨_, completeLatched_error s e hd⟩

theorem runEvent_answers {e : Event} (h : e.wellFormed = true) (s : State) : ∃ t, runEvent e s = .next t := by
  cases e with
  | read off bytes =>
    obtain ⟨hoff, hal, hbytes⟩ := (wellFormed_read_iff off bytes).1 h
    exact ⟨_, portAccess_ok off bytes _ hoff hal hbytes⟩
  | write off bytes v =>
    obtain ⟨hoff, hal, hbytes⟩ := (wellFormed_write_iff off bytes v).1 h
    exact ⟨_, portAccess_ok off bytes _ hoff hal hbytes⟩
  | engine => exact engineTurn_answers s
  | reset => exact ⟨_, rfl⟩

/-- Settles O25: every supported move is answered, and a step takes just that move off the script. -/
theorem supportedScriptsNeverStop : Obligations.SupportedScriptsNeverStop := by
  intro s hs
  have hanswer : ∃ t, step s = .next t := by
    cases hscript : s.script with
    | nil =>
      rw [step_nil s hscript]
      exact engineTurn_answers s
    | cons e es =>
      rw [step_cons s e es hscript]
      exact runEvent_answers (hs e (by simp [hscript])) s.popScript
  obtain ⟨t, ht⟩ := hanswer
  have htail := step_script ht
  exact ⟨t, ht, fun e he => hs e (List.mem_of_mem_tail (htail ▸ he)), htail⟩

/-! ### Loading a register -/

theorem setReg_self (s : State) (reg : RegName) : s.setReg reg (s.regValue reg) = s := by
  cases reg with
  | a i => exact congrArg (fun a => { s with a := a }) (vector_set_get _ i)
  | paX i | paY i => exact congrArg (fun pa => { s with pa := pa }) (vector_set_get _ i)
  | r | prX | prY => rfl

/-- The state with another list of moves still to come. -/
def State.withScript (s : State) (es : List Event) : State := { s with script := es }

/-- Of two writes of a whole register the second counts, whatever the script between them. -/
theorem setReg_withScript_setReg (s : State) (reg : RegName) (m n : Nat) (es : List Event) :
    ((s.setReg reg m).withScript es).setReg reg n = (s.setReg reg n).withScript es := by
  cases reg with
  | a i => simp only [State.setReg, State.withScript, Vector.set_set]
  | paX i | paY i => simp only [State.setReg, State.withScript, vector_get_set_same, Vector.set_set]
  | r | prX | prY => rfl

theorem regValue_withScript (s : State) (es : List Event) (reg : RegName) :
    (s.withScript es).regValue reg = s.regValue reg := rfl

theorem slot_offset_supported (reg : RegName) {j : Nat} (hj : j < 16) :
    slotBase reg + 4 * j < 4096 ∧ (slotBase reg + 4 * j) % 4 = 0 := by
  cases reg <;> simp only [slotBase] <;> omega

section
variable {reg : RegName} (hreg : reg.IsArgument) (v : Nat) {s : State} (hb : s.busy = false)
include hreg hb

/-- One word write of an argument register on an idle core. -/
theorem step_wordWrite {j : Nat} (hj : j < s.NW) {es : List Event}
    (hs : s.script = wr (slotBase reg + 4 * j) (getWord v j) :: es) :
    step s = .next ((s.setReg reg (setWord (s.regValue reg) j (getWord v j))).withScript es) := by
  obtain ⟨hoff, hal⟩ := slot_offset_supported reg (hj.trans_le s.NW_le)
  rw [step_write hs hoff hal, writeWord_slot_idle (s := { s with script := es }) hb hreg hj]
  cases reg <;> rfl

/-- Word writes of an argument register, run one step each, load the words they carry (spec/30_encoding.md R87). -/
theorem core_run_wordWrites (es : List Event) {js : List Nat} (hjs : ∀ j ∈ js, j < s.NW)
    (hs : s.script = (js.map fun j => wr (slotBase reg + 4 * j) (getWord v j)) ++ es) :
    Host.Core.run Sys2Proof.core js.length s =
      .next ((s.setReg reg (loadWords v js (s.regValue reg))).withScript es) := by
  induction js generalizing s with
  | nil =>
    obtain rfl : s.script = es := hs
    exact congrArg Host.Outcome.next (congrArg (State.withScript · s.script) (setReg_self s reg).symm)
  | cons j js ih =>
    obtain ⟨hj, hrest⟩ := List.forall_mem_cons.1 hjs
    have hstep := core_run_succ js.length s _ (step_wordWrite hreg v hb hj hs)
    have hwritten := setReg_eq s reg (setWord (s.regValue reg) j (getWord v j))
    rw [List.length_cons, hstep.trans (ih (by rw [hwritten]; exact hb) (by rw [hwritten]; exact hrest) rfl),
      setReg_withScript_setReg, regValue_withScript, regValue_setReg_same s hreg]
    rfl

end

/-- Settles O23: the moves of `LDS` are the word writes of `Ai`, and the words loaded make up all of `v`. -/
theorem loadScalarLoadsTheWholeRegister : Obligations.LoadScalarLoadsTheWholeRegister := by
  intro s i v es hb hold hv hs
  have hrun := core_run_wordWrites (reg := .a i) trivial v hb es (fun j => List.mem_range.1) hs
  have hload : loadWords v (List.range s.NW) (s.regValue (.a i)) = v := loadWords_range hold hv
  rw [List.length_range, hload] at hrun
  exact hrun

end Sys2Proof.Machine
end

section
/-! PROOF. The statements of spec/30_encoding.md: the legal command words (R80, R81), the opcode map (R82), and what an
illegal word does (R83). -/

namespace Sys2Proof.Machine

/-! ### The two fields of a command word -/

theorem upperBits_eq_zero_iff (w : Word) : w.extractLsb' 8 24 = 0 ↔ w.toNat / 256 = 0 := by
  have hw := w.isLt
  rw [← BitVec.toNat_inj, BitVec.extractLsb'_toNat, Nat.shiftRight_eq_div_pow]
  change w.toNat / 256 % 2 ^ 24 = 0 ↔ w.toNat / 256 = 0
  omega

theorem opcodeField_toNat (w : Word) : (w.extractLsb' 0 8).toNat = w.toNat % 256 := by
  rw [BitVec.extractLsb'_toNat, Nat.shiftRight_zero]

/-! ### The opcode map, read in both directions -/

/-- The map, row by row: no number but its own command word stands for a command, so no two rows name the same one. -/
theorem instrOfOpcode_eq_some_iff (op : Nat) (i : Instr) : instrOfOpcode op = some i ↔ op = (encode i).toNat := by
  constructor
  · intro h
    unfold instrOfOpcode at h
    split at h
    all_goals cases h <;> rfl
  · rintro rfl
    cases i <;> rfl

theorem encode_toNat_lt (i : Instr) : (encode i).toNat < 256 := by
  cases i <;> decide

theorem decode_eq_ok_iff (w : Word) (i : Instr) :
    decode w = .ok i ↔ w.toNat / 256 = 0 ∧ w.toNat % 256 = (encode i).toNat := by
  rw [← upperBits_eq_zero_iff, ← opcodeField_toNat, ← instrOfOpcode_eq_some_iff, decode]
  by_cases hupper : w.extractLsb' 8 24 = 0
  · rw [if_pos hupper]
    cases instrOfOpcode (w.extractLsb' 0 8).toNat <;> simp [hupper]
  · rw [if_neg hupper]
    exact ⟨nofun, fun h => absurd h.1 hupper⟩

/-- Settles O2: a command word is below 256, so its two fields are the whole word. -/
theorem decodeAcceptsExactlyTheEncodings : Obligations.DecodeAcceptsExactlyTheEncodings := by
  intro w i
  have hi := encode_toNat_lt i
  rw [decode_eq_ok_iff, ← BitVec.toNat_inj]
  omega

/-! ### The legal words -/

/-- The opcodes of spec/30_encoding.md R82, in the order of the map. -/
def opcodes : List Nat :=
  [0x10, 0x11, 0x12, 0x13, 0x14, 0x15, 0x16, 0x20, 0x21, 0x22, 0x23, 0x24, 0x30, 0x31, 0x40, 0x41, 0x42, 0x43, 0x44,
    0x50, 0x51, 0x52, 0x60, 0x61, 0x62, 0x63, 0x64, 0x65, 0x66, 0x67, 0x68]

theorem encode_toNat_mem_opcodes (i : Instr) : (encode i).toNat ∈ opcodes := by
  cases i <;> decide

theorem mem_opcodes_iff (n : Nat) : n ∈ opcodes ↔ ∃ i, n = (encode i).toNat := by
  constructor
  · intro hn
    have hassigned : ∀ op ∈ opcodes, (instrOfOpcode op).isSome = true := by decide
    obtain ⟨i, hi⟩ := Option.isSome_iff_exists.1 (hassigned n hn)
    exact ⟨i, (instrOfOpcode_eq_some_iff n i).1 hi⟩
  · rintro ⟨i, rfl⟩
    exact encode_toNat_mem_opcodes i

/-- Settles O3: the opcodes are the command words of the 31 commands. -/
theorem legalWordsAreTheThirtyOneOpcodes : Obligations.LegalWordsAreTheThirtyOneOpcodes := by
  intro w
  calc (∃ i, decode w = .ok i)
      ↔ ∃ i, w.toNat / 256 = 0 ∧ w.toNat % 256 = (encode i).toNat := exists_congr (decode_eq_ok_iff w)
    _ ↔ w.toNat / 256 = 0 ∧ ∃ i, w.toNat % 256 = (encode i).toNat := exists_and_left
    _ ↔ w.toNat / 256 = 0 ∧ w.toNat % 256 ∈ opcodes := and_congr_right' (mem_opcodes_iff _).symm

/-- Settles O1: each word is the encoding of the command named. -/
theorem wordsOfTheOpcodeMapDecode : Obligations.WordsOfTheOpcodeMapDecode :=
  ⟨decode_encode .modadd, decode_encode .modinv, decode_encode .rsaVerify, decode_encode .dhShared,
    decode_encode .egSign, decode_encode .dsaVerify, decode_encode .ecPmul, decode_encode .ecegDecrypt⟩

/-! ### Illegal words -/

/-- Decoding is total: a word it gives no command for is rejected (spec/30_encoding.md R81, R83). -/
theorem exists_decode_error_iff (w : Word) : (∃ e, decode w = .error e) ↔ ¬∃ i, decode w = .ok i := by
  cases decode w <;> simp

/-- The latched word alone decides that the turn ends in `ILLEGAL_CMD` (spec/30_encoding.md R83). -/
theorem engineTurn_illegal {s : State} (hb : s.busy = true) (hd : ¬∃ i, decode s.cmdLatch = .ok i) :
    engineTurn s = .next (s.commit { rc := .illegalCmd }) := by
  obtain ⟨e, he⟩ := (exists_decode_error_iff s.cmdLatch).2 hd
  rw [engineTurn_busy s hb, completeLatched_error s e he]

/-- Settles O6: the write launches the word unchecked, and the engine's turn completes it with a failure, whose every
result is zero; the launch changes nothing but the latch that the completion does not rewrite. -/
theorem illegalWordCompletesWithIllegalCmd : Obligations.IllegalWordCompletesWithIllegalCmd := by
  intro s w hb hs hw
  have hillegal : ¬∃ i, decode w = .ok i := by
    rw [legalWordsAreTheThirtyOneOpcodes w]
    rintro ⟨hupper, hopcode⟩
    exact hw.elim (· hupper) (· hopcode)
  have hstep : step (s.writeWord 0x00C w) = .next ((s.launch w).commit { rc := .illegalCmd }) := by
    rw [writeWord_cmd, guarded_idle s (s.launch w) hb, step_nil (s.launch w) hs]
    exact engineTurn_illegal (s := s.launch w) rfl hillegal
  exact ⟨_, hstep, rfl, rfl, rfl, rfl, rfl, rfl, rfl, rfl, rfl, commit_sameOutsideResults (s.launch w) _⟩

end Sys2Proof.Machine
end

section
/-! PROOF. What the kernel functions compute: the loop of square-and-multiply is the power (spec/40_kernel.md R105,
R106), the Euclidean recurrence needs no fuel beyond its own and meets its contract (R108, R109), and the modular
inverse is the inverse whenever there is one (R111). -/

namespace Sys2Proof.Machine

/-! ### Modular exponentiation -/

/-- One round keeps `r * s ^ t` modulo `m`: the low bit of `t` goes into `r`, the other bits stay with the square of
`s` (spec/40_kernel.md R106). -/
theorem modexpRound_modEq (m r s t : Nat) :
    (if t % 2 = 1 then mulmod r s m else r) * mulmod s s m ^ (t / 2) ≡ r * s ^ t [MOD m] := by
  have hsquares : mulmod s s m ^ (t / 2) ≡ s ^ (2 * (t / 2)) [MOD m] := by
    rw [mulmod_eq, pow_mul, pow_two]
    exact (Nat.mod_modEq (s * s) m).pow _
  have ht : 2 * (t / 2) + t % 2 = t := Nat.div_add_mod t 2
  split
  case isTrue hodd =>
    rw [mulmod_eq]
    calc r * s % m * mulmod s s m ^ (t / 2)
        ≡ r * s * s ^ (2 * (t / 2)) [MOD m] := (Nat.mod_modEq (r * s) m).mul hsquares
      _ = r * s ^ (2 * (t / 2) + 1) := by ring
      _ = r * s ^ t := by rw [← hodd, ht]
  case isFalse heven =>
    calc r * mulmod s s m ^ (t / 2)
        ≡ r * s ^ (2 * (t / 2)) [MOD m] := hsquares.mul_left r
      _ = r * s ^ t := by rw [show 2 * (t / 2) = t by omega]

/-- With a round for every bit of the exponent the loop ends in the power. -/
theorem modexpLoop_eq {m fuel r s t : Nat} (hr : r < m) (ht : t < 2 ^ fuel) :
    modexpLoop m fuel r s t = r * s ^ t % m := by
  induction fuel generalizing r s t with
  | zero =>
    obtain rfl : t = 0 := by omega
    rw [modexpLoop_zero, pow_zero, mul_one, Nat.mod_eq_of_lt hr]
  | succ fuel ih =>
    rcases Nat.eq_zero_or_pos t with rfl | hpos
    · rw [modexpLoop_zero, pow_zero, mul_one, Nat.mod_eq_of_lt hr]
    · have hround : (if t % 2 = 1 then mulmod r s m else r) < m := by
        split
        · exact mulmod_lt r s m (by omega)
        · exact hr
      rw [modexpLoop_succ _ _ _ _ _ hpos.ne', ih hround (by omega)]
      exact modexpRound_modEq m r s t

/-- `modexp(b, e, m)` is `mod(b ^ e, m)` (spec/40_kernel.md R105). -/
theorem modexp_eq (b e : Nat) {m : Nat} (hm : 2 ≤ m) : modexp b e m = b ^ e % m := by
  rw [modexp, modexpLoop_eq hm Nat.lt_log2_self, modZ_natCast, one_mul, ← Nat.pow_mod]

/-! ### Extended GCD -/

/-- Fuel above the second operand makes no difference: each call's second operand is below the one before. -/
theorem xgcdRec_eq_of_lt {fuel fuel' a b : Nat} (h : b < fuel) (h' : b < fuel') :
    xgcdRec fuel a b = xgcdRec fuel' a b := by
  induction fuel generalizing fuel' a b with
  | zero => omega
  | succ fuel ih =>
    rcases Nat.eq_zero_or_pos b with rfl | hb
    · rw [xgcdRec_zero, xgcdRec_zero]
    · obtain ⟨fuel', rfl⟩ := Nat.exists_eq_add_one_of_ne_zero (Nat.ne_zero_of_lt h')
      have hlt : a % b < b := Nat.mod_lt a hb
      rw [xgcdRec_succ _ _ _ hb.ne', xgcdRec_succ _ _ _ hb.ne',
        ih (fuel' := fuel') (a := b) (b := a % b) (by omega) (by omega)]

@[simp] theorem xgcd_zero (a : Nat) : xgcd a 0 = (a, 1, 0) := rfl

/-- The classical recurrence (spec/40_kernel.md R108). -/
theorem xgcd_of_pos (a : Nat) {b : Nat} (hb : 0 < b) :
    xgcd a b = ((xgcd b (a % b)).1, (xgcd b (a % b)).2.2,
      (xgcd b (a % b)).2.1 - ((a / b : Nat) : Int) * (xgcd b (a % b)).2.2) := by
  rw [xgcd, xgcdRec_succ _ _ _ hb.ne', xgcd, xgcdRec_eq_of_lt (Nat.mod_lt a hb) (Nat.lt_succ_self (a % b))]

theorem xgcd_gcd (a b : Nat) : (xgcd a b).1 = Nat.gcd a b := by
  induction b, a using Nat.gcd.induction with
  | H0 a => rw [xgcd_zero, Nat.gcd_zero_right]
  | H1 b a hb ih => rw [xgcd_of_pos a hb, ih, Nat.gcd_comm b, Nat.gcd_comm a, Nat.gcd_rec b a]

/-- Bézout's identity (spec/40_kernel.md R109). -/
theorem xgcd_bezout (a b : Nat) : (a : Int) * (xgcd a b).2.1 + b * (xgcd a b).2.2 = ((xgcd a b).1 : Int) := by
  induction b, a using Nat.gcd.induction with
  | H0 a => simp
  | H1 b a hb ih =>
    have hdiv : (b : Int) * (a / b : Nat) + (a % b : Nat) = a := by exact_mod_cast Nat.div_add_mod a b
    rw [xgcd_of_pos a hb]
    dsimp only
    linear_combination ih - (xgcd b (a % b)).2.2 * hdiv

theorem xgcd_zero_left {b : Nat} (hb : 0 < b) : xgcd 0 b = (b, 0, 1) := by
  simp [xgcd_of_pos 0 hb]

theorem xgcd_self {a : Nat} (ha : 0 < a) : xgcd a a = (a, 0, 1) := by
  simp [xgcd_of_pos a ha]

theorem xgcdIter_zero (fuel a : Nat) (oldS s oldT t : Int) : xgcdIter fuel a 0 oldS s oldT t = (a, oldS, oldT) := by
  cases fuel <;> rfl

/-- The iterative form carries two linear combinations along: whatever they start from, it ends in the ones that have
the recurrence's coefficients. -/
theorem xgcdIter_eq {fuel a b : Nat} (h : b < fuel) (oldS s oldT t : Int) :
    xgcdIter fuel a b oldS s oldT t =
      ((xgcd a b).1, (xgcd a b).2.1 * oldS + (xgcd a b).2.2 * s, (xgcd a b).2.1 * oldT + (xgcd a b).2.2 * t) := by
  induction fuel generalizing a b oldS s oldT t with
  | zero => omega
  | succ fuel ih =>
    rcases Nat.eq_zero_or_pos b with rfl | hb
    · simp [xgcdIter_zero]
    · have hlt : a % b < b := Nat.mod_lt a hb
      rw [xgcdIter, if_neg hb.ne', ih (by omega), xgcd_of_pos a hb]
      ext1
      · rfl
      · ext1 <;> dsimp only <;> ring

/-! ### Modular inverse -/

/-- The coefficient of `a` is an inverse of `a`, up to the residue (spec/40_kernel.md R111). -/
theorem mul_modInverse_mod {a m : Nat} (hm : 2 ≤ m) (h : Nat.gcd a m = 1) : a * modInverse a m % m = 1 := by
  have hg : (xgcd a m).1 = 1 := (xgcd_gcd a m).trans h
  have hbezout : (a : Int) * (xgcd a m).2.1 + m * (xgcd a m).2.2 = 1 := by rw [xgcd_bezout, hg, Nat.cast_one]
  have hcoeff : (a : Int) * (xgcd a m).2.1 ≡ 1 [ZMOD m] :=
    Int.modEq_iff_dvd.2 ⟨(xgcd a m).2.2, by linear_combination -hbezout⟩
  have hinverse : ((a * modInverse a m : Nat) : Int) ≡ (1 : Nat) [ZMOD m] := by
    rw [modInverse_eq, if_neg (not_not.2 hg), Nat.cast_mul, modZ_cast _ m (by omega)]
    exact (Int.ModEq.mul_left a (Int.mod_modEq _ _)).trans hcoeff
  exact Nat.mod_eq_of_modEq (Int.natCast_modEq_iff.1 hinverse) hm

/-- The zero sentinel means exactly that there is no inverse (spec/40_kernel.md R111, R112). -/
theorem modInverse_eq_zero_iff {a m : Nat} (hm : 2 ≤ m) : modInverse a m = 0 ↔ Nat.gcd a m ≠ 1 := by
  constructor
  · intro h0 h
    have h1 := mul_modInverse_mod hm h
    simp [h0] at h1
  · intro h
    rw [modInverse_eq, xgcd_gcd, if_pos h]

end Sys2Proof.Machine
end

section
/-! PROOF. The statements of spec/40_kernel.md: what each command of the kernel completes with (R101 to R104, R107,
R110, R112), the two forms and the contract of `xgcd` (R108, R109), and the testable properties (R113). -/

namespace Sys2Proof.Machine

/-! ### The datapath commands -/

/-- A command whose one test is that of its modulus. -/
theorem modulusTest_eq (s : State) (m : Nat) (o : CmdOutcome) :
    (if m < 2 then s.fail .invalidParam else s.finish o) =
      .next (s.commit (if m < 2 then { rc := .invalidParam } else o)) := by
  split <;> rfl

theorem exec_modadd (s : State) : exec .modadd s =
    .next (s.commit (if s.A 2 < 2 then { rc := .invalidParam } else { r0 := (s.A 0 + s.A 1) % s.A 2 })) := by
  rw [← addmod_eq, ← modulusTest_eq]
  rfl

theorem exec_modsub (s : State) : exec .modsub s =
    .next (s.commit (if s.A 2 < 2 then { rc := .invalidParam }
      else { r0 := (((s.A 0 : Int) - s.A 1) % s.A 2).toNat })) := by
  rw [← modulusTest_eq]
  rfl

theorem exec_modmul (s : State) : exec .modmul s =
    .next (s.commit (if s.A 2 < 2 then { rc := .invalidParam } else { r0 := s.A 0 * s.A 1 % s.A 2 })) := by
  rw [← mulmod_eq, ← modulusTest_eq]
  rfl

theorem exec_modmac (s : State) : exec .modmac s =
    .next (s.commit (if s.A 2 < 2 then { rc := .invalidParam } else { r0 := (s.A 0 * s.A 1 + s.A 3) % s.A 2 })) := by
  rw [← macmod_eq, ← modulusTest_eq]
  rfl

/-- Settles O30: each command is the test of its modulus before its residue. -/
theorem datapathCommandsReturnTheResidue : Obligations.DatapathCommandsReturnTheResidue := by
  refine ⟨decode_encode .modadd, decode_encode .modsub, decode_encode .modmul, decode_encode .modmac, fun s => ?_⟩
  rw [exec_modadd, exec_modsub, exec_modmul, exec_modmac]
  constructor
  · intro hm
    simp only [if_neg hm.not_gt, and_self]
  · intro hm
    simp only [if_pos hm, and_self]

/-! ### Exponentiation -/

/-- Any command that is the shared exponentiation (spec/40_kernel.md R107, spec/41_rsa.md R126). -/
theorem powerCommand_eq (s : State) :
    (2 ≤ s.A 2 → powerCommand s = .next (s.commit { r0 := s.A 0 ^ s.A 1 % s.A 2 })) ∧
    (s.A 2 < 2 → powerCommand s = .next (s.commit { rc := .invalidParam })) := by
  rcases powerCommand_cases s with ⟨hlt, h⟩ | ⟨hle, h⟩
  · exact ⟨fun hle => absurd hlt hle.not_gt, fun _ => h⟩
  · exact ⟨fun _ => by rw [h, modexp_eq _ _ hle], fun hlt => absurd hlt hle.not_gt⟩

/-- Settles O31: `MODEXP` is the shared exponentiation, whose loop computes the power. -/
theorem modexpReturnsThePower : Obligations.ModexpReturnsThePower :=
  ⟨decode_encode .modexp, powerCommand_eq⟩

/-! ### Extended GCD -/

/-- Settles O32: the iterative form starts from the combinations `(1, 0)` and `(0, 1)` of the operands. -/
theorem xgcdIsTheClassicalRecurrence : Obligations.XgcdIsTheClassicalRecurrence := by
  refine ⟨xgcd_zero, fun a b g x1 y1 hb h => ?_, fun a b => ?_⟩
  · rw [xgcd_of_pos a hb, h]
  · rw [xgcdIter_eq (Nat.lt_succ_self b)]
    simp

/-- Settles O33, clause by clause. -/
theorem xgcdMeetsItsContract : Obligations.XgcdMeetsItsContract := by
  refine ⟨fun a b => ?_, fun a b => ⟨xgcd_zero a, xgcd_zero_left, xgcd_self⟩⟩
  obtain ⟨-, hx, hy⟩ := xgcdRec_bounds (b + 1) a b
  exact ⟨xgcd_gcd a b, xgcd_bezout a b, hx, hy⟩

/-- The outcome of `XGCD`, coefficients as sign and magnitude (spec/40_kernel.md R110). -/
def xgcdOutcome (g : Nat) (x y : Int) : CmdOutcome :=
  { r0 := g, r1 := x.natAbs, xneg := decide (x < 0), r2 := y.natAbs, yneg := decide (y < 0) }

theorem exec_xgcd {s : State} {g : Nat} {x y : Int} (h : xgcd (s.A 0) (s.A 1) = (g, x, y)) :
    exec .xgcd s = .next (s.commit (xgcdOutcome g x y)) := by
  change execXgcd s = _
  rw [execXgcd, h]
  rfl

/-- Sign and magnitude give the integer back. -/
theorem sign_mul_magnitude (x : Int) : x = (if decide (x < 0) then -1 else 1) * (x.natAbs : Int) := by
  rcases lt_or_ge x 0 with hx | hx
  · simp [hx, abs_of_neg hx]
  · simp [hx.not_gt, abs_of_nonneg hx]

/-- Settles O34: the completion's fields are the triple as sign and magnitude. -/
theorem xgcdCommandReturnsSignAndMagnitude : Obligations.XgcdCommandReturnsSignAndMagnitude := by
  refine ⟨decode_encode .xgcd, fun s g x y h => ⟨_, exec_xgcd h, rfl, rfl, sign_mul_magnitude x,
    sign_mul_magnitude y, ?_, ?_, rfl, rfl, commit_sameOutsideResults s _⟩⟩
  · exact decide_eq_true_iff
  · exact decide_eq_true_iff

/-! ### Modular inverse -/

/-- `MODINV` tests the modulus, then the zero sentinel (spec/40_kernel.md R112). -/
theorem exec_modinv (s : State) : exec .modinv s =
    .next (s.commit (if s.A 1 < 2 then { rc := .invalidParam }
      else if modInverse (s.A 0) (s.A 1) = 0 then { rc := .noInverse }
      else { r0 := modInverse (s.A 0) (s.A 1) })) := by
  change execModinv s = _
  unfold execModinv
  dsimp only
  split
  · rfl
  · split <;> rfl

/-- Settles O35: the zero sentinel tells the two cases of a valid modulus apart. -/
theorem modinvReturnsTheInverse : Obligations.ModinvReturnsTheInverse := by
  refine ⟨decode_encode .modinv, fun s => ?_⟩
  rw [exec_modinv]
  refine ⟨fun hm hgcd => ⟨modInverse (s.A 0) (s.A 1), ?_, modInverse_lt _ _ (by omega), mul_modInverse_mod hm hgcd⟩,
    fun hm hgcd => ?_, fun hm => ?_⟩
  · rw [if_neg hm.not_gt, if_neg ((modInverse_eq_zero_iff hm).not.2 (not_not.2 hgcd))]
  · rw [if_neg hm.not_gt, if_pos ((modInverse_eq_zero_iff hm).2 hgcd)]
  · rw [if_pos hm]

/-- `MODINV` ends with `OK` only on a valid modulus and with an inverse. -/
theorem exec_modinv_ok {s t : State} (h : exec .modinv s = .next t) (hok : t.rc = .ok) :
    2 ≤ s.A 1 ∧ s.A 0 * t.r.get 0 % s.A 1 = 1 := by
  obtain ⟨-, hmodinv⟩ := modinvReturnsTheInverse
  obtain ⟨hinverse, hnone, hinvalid⟩ := hmodinv s
  rcases lt_or_ge (s.A 1) 2 with hm | hm
  · obtain rfl := Host.Outcome.next.inj ((hinvalid hm).symm.trans h)
    cases hok
  · by_cases hgcd : Nat.gcd (s.A 0) (s.A 1) = 1
    · obtain ⟨v, hv, -, hone⟩ := hinverse hm hgcd
      obtain rfl := Host.Outcome.next.inj (hv.symm.trans h)
      exact ⟨hm, hone⟩
    · obtain rfl := Host.Outcome.next.inj ((hnone hm hgcd).symm.trans h)
      cases hok

/-- Settles O36: a power with exponent 0 is 1, and `MODMUL` of a value and its inverse is 1. -/
theorem kernelPropertiesOfTheSource : Obligations.KernelPropertiesOfTheSource := by
  constructor
  · intro s he hm
    obtain ⟨-, hmodexp⟩ := modexpReturnsThePower
    obtain ⟨hpower, -⟩ := hmodexp s
    rw [hpower hm, he, pow_zero, Nat.mod_eq_of_lt hm]
  · intro s t u h hok ha hv hmod
    obtain ⟨hm, hone⟩ := exec_modinv_ok h hok
    rw [exec_modmul, ha, hv, hmod, if_neg hm.not_gt, hone]

end Sys2Proof.Machine
end

section
/-! PROOF. The statements of spec/41_rsa.md: what `RSA_KEYGEN` completes with and when (R120), the four exponentiations
(R121 to R124), and the round trips for keys from two different primes (R125). -/

namespace Sys2Proof.Machine

/-! ### Key generation -/

/-- `φ` of the two factors in `A0` and `A1` (spec/41_rsa.md R120). -/
def State.rsaPhi (s : State) : Nat := (s.A 0 - 1) * (s.A 1 - 1)

/-- The operands `RSA_KEYGEN` makes a key from (spec/41_rsa.md R120). -/
structure State.RsaKeyAccepted (s : State) : Prop where
  two_le_p : 2 ≤ s.A 0
  two_le_q : 2 ≤ s.A 1
  product_fits : s.A 0 * s.A 1 < 2 ^ s.W
  one_lt_e : 1 < s.A 2
  e_lt_phi : s.A 2 < s.rsaPhi
  coprime : Nat.gcd (s.A 2) s.rsaPhi = 1

theorem State.RsaKeyAccepted.two_le_phi {s : State} (h : s.RsaKeyAccepted) : 2 ≤ s.rsaPhi :=
  h.one_lt_e.trans h.e_lt_phi

theorem exec_rsaKeygen_of_accepted {s : State} (h : s.RsaKeyAccepted) : exec .rsaKeygen s =
    .next (s.commit { r0 := s.A 0 * s.A 1, r1 := modInverse (s.A 2) s.rsaPhi }) := by
  have hfactors : ¬(s.A 0 < 2 ∨ s.A 1 < 2) := not_or.2 ⟨h.two_le_p.not_gt, h.two_le_q.not_gt⟩
  have hinverse : modInverse (s.A 2) s.rsaPhi ≠ 0 := fun h0 => (modInverse_eq_zero_iff h.two_le_phi).1 h0 h.coprime
  change execRsaKeygen s = _
  unfold execRsaKeygen
  dsimp only
  rw [if_neg hfactors, if_neg h.product_fits.not_ge, if_neg (not_not.2 ⟨h.one_lt_e, h.e_lt_phi⟩)]
  exact if_neg hinverse

/-- Every test of `RSA_KEYGEN` fails with the same code, so their order does not show (spec/41_rsa.md R120). -/
theorem exec_rsaKeygen_of_not_accepted {s : State} (h : ¬s.RsaKeyAccepted) : exec .rsaKeygen s =
    .next (s.commit { rc := .invalidParam }) := by
  change execRsaKeygen s = _
  unfold execRsaKeygen
  dsimp only
  split_ifs with hfactors hfits hexponent hinverse
  · rfl
  · rfl
  · rfl
  · obtain ⟨hp, hq⟩ := not_or.1 hfactors
    obtain ⟨he, hphi⟩ := hexponent
    have hcoprime := (modInverse_eq_zero_iff (he.trans hphi)).not_left.1 hinverse
    exact absurd ⟨not_lt.1 hp, not_lt.1 hq, not_le.1 hfits, he, hphi, hcoprime⟩ h
  · rfl

/-- Settles O37: the failure clause lists the ways not to be accepted. -/
theorem rsaKeygenReturnsModulusAndInverse : Obligations.RsaKeygenReturnsModulusAndInverse := by
  refine ⟨decode_encode .rsaKeygen, ?_⟩
  rintro s _ _ _ _ rfl rfl rfl rfl
  constructor
  · intro hp hq hn he hphi hgcd
    have h : s.RsaKeyAccepted := ⟨hp, hq, hn, he, hphi, hgcd⟩
    exact ⟨_, exec_rsaKeygen_of_accepted h, modInverse_lt _ _ (Nat.zero_lt_of_lt h.two_le_phi),
      mul_modInverse_mod h.two_le_phi hgcd⟩
  · refine fun hcause => exec_rsaKeygen_of_not_accepted fun ⟨hp, hq, hn, he, hphi, hgcd⟩ => ?_
    rcases hcause with h | h | h | h | h | h
    · exact hp.not_gt h
    · exact hq.not_gt h
    · exact hn.not_ge h
    · exact he.not_ge h
    · exact hphi.not_ge h
    · exact h hgcd

/-- `RSA_KEYGEN` ends with `OK` only with a modulus and with exponents that are inverse modulo `φ`. -/
theorem exec_rsaKeygen_ok {s t : State} (h : exec .rsaKeygen s = .next t) (hok : t.rc = .ok) :
    t.r.get 0 = s.A 0 * s.A 1 ∧ s.A 2 * t.r.get 1 % s.rsaPhi = 1 := by
  by_cases hkey : s.RsaKeyAccepted
  · obtain rfl := Host.Outcome.next.inj ((exec_rsaKeygen_of_accepted hkey).symm.trans h)
    exact ⟨rfl, mul_modInverse_mod hkey.two_le_phi hkey.coprime⟩
  · obtain rfl := Host.Outcome.next.inj ((exec_rsaKeygen_of_not_accepted hkey).symm.trans h)
    cases hok

/-! ### The four exponentiations -/

/-- Settles O38: each of the four is the shared exponentiation (spec/41_rsa.md R126). -/
theorem rsaExponentiationsReturnThePower : Obligations.RsaExponentiationsReturnThePower := by
  refine ⟨decode_encode .rsaEncrypt, decode_encode .rsaDecrypt, decode_encode .rsaSign, decode_encode .rsaVerify,
    fun s i hi => ?_⟩
  have hpower : exec i s = powerCommand s := by rcases hi with rfl | rfl | rfl | rfl <;> rfl
  rw [hpower]
  exact powerCommand_eq s

/-! ### Round trips -/

/-- Fermat's little theorem for two primes at once, multiples of either included. -/
theorem pow_modEq_self_of_two_primes {p q x : Nat} (hp : p.Prime) (hq : q.Prime) (hne : p ≠ q)
    (hx : x % ((p - 1) * (q - 1)) = 1) (m : Nat) : m ^ x ≡ m [MOD p * q] := by
  have hpos : 1 ≤ x := hx ▸ Nat.mod_le x _
  have hdvd : (p - 1) * (q - 1) ∣ x - x % ((p - 1) * (q - 1)) := Nat.dvd_sub_mod x
  rw [hx] at hdvd
  have hprime {r : Nat} (hr : r.Prime) (hrx : r - 1 ∣ x - 1) : m ^ x ≡ m [MOD r] := by
    have h := Int.ModEq.pow_eq_pow hr hrx hpos one_pos m
    rw [pow_one] at h
    exact_mod_cast h
  exact (Nat.modEq_and_modEq_iff_modEq_mul ((Nat.coprime_primes hp hq).2 hne)).1
    ⟨hprime hp ((Nat.dvd_mul_right _ _).trans hdvd), hprime hq ((Nat.dvd_mul_left _ _).trans hdvd)⟩

/-- Two exponents that are inverse modulo `φ` undo each other on the residues modulo `p * q` (spec/41_rsa.md R125). -/
theorem pow_mod_pow_mod_eq_self {p q x y m : Nat} (hp : p.Prime) (hq : q.Prime) (hne : p ≠ q)
    (hxy : x * y % ((p - 1) * (q - 1)) = 1) (hm : m < p * q) : (m ^ x % (p * q)) ^ y % (p * q) = m := by
  rw [← Nat.pow_mod, ← pow_mul]
  exact Nat.mod_eq_of_modEq (pow_modEq_self_of_two_primes hp hq hne hxy m) hm

/-- Settles O39: both pairs raise to the two exponents of the key, the pair of signatures in the other order. -/
theorem rsaRoundTrips : Obligations.RsaRoundTrips := by
  intro k k' u v v' i j hij hp hq hne hkey hok hun hvn hm hencrypt hsign hfirst hvalue
  obtain ⟨hmodulus, hinverse⟩ := exec_rsaKeygen_ok hkey hok
  rw [hmodulus] at hun hvn hm
  have htwo : 2 ≤ k.A 0 * k.A 1 := hp.two_le.trans (Nat.le_mul_of_pos_right _ hq.pos)
  obtain ⟨-, -, -, -, hpower⟩ := rsaExponentiationsReturnThePower
  have hexponents : u.A 1 * v.A 1 % k.rsaPhi = 1 := by
    rcases hij with ⟨hi, -⟩ | ⟨hi, -⟩
    · obtain ⟨hu, hv⟩ := hencrypt hi
      rw [hu, hv, hinverse]
    · obtain ⟨hu, hv⟩ := hsign hi
      rw [hu, hv, mul_comm, hinverse]
  obtain ⟨hfirstPower, -⟩ := hpower u i (by tauto)
  obtain ⟨hsecondPower, -⟩ := hpower v j (by tauto)
  have hstate := Host.Outcome.next.inj ((hfirstPower (hun ▸ htwo)).symm.trans hfirst)
  have hresult : v.A 0 = u.A 0 ^ u.A 1 % (k.A 0 * k.A 1) := by
    rw [hvalue, ← hstate, ← hun]
    rfl
  rw [hsecondPower (hvn ▸ htwo), hresult, hvn, pow_mod_pow_mod_eq_self hp hq hne hexponents hm]

end Sys2Proof.Machine
end

section
/-! PROOF. The Diffie-Hellman commands (spec/42_dh.md): what each of the two completes with (R130, R131), the soft
warning included (R133), and the agreement of the two shared secrets (R132). -/

namespace Sys2Proof.Machine

/-! ### The two commands -/

/-- The soft warning without the subtraction of `p - 2`; it holds for `p < 2` too, where no key is in range. -/
theorem softWarning_iff (a p : Nat) : softWarning a p = true ↔ (a = 0 ∨ p < a + 2) := by
  rw [softWarning, Bool.not_eq_true', decide_eq_false_iff_not]
  omega

/-- `DH_PUBKEY` tests the modulus only (spec/42_dh.md R130). -/
theorem exec_dhPubkey (s : State) : exec .dhPubkey s =
    .next (s.commit (if s.A 0 < 2 then { rc := .invalidParam }
      else { warn := softWarning (s.A 3) (s.A 0), r0 := modexp (s.A 2) (s.A 3) (s.A 0) })) := by
  rw [← modulusTest_eq]
  rfl

/-- `DH_SHARED` tests the modulus, then warns, then tests the remote key (spec/42_dh.md R131). -/
theorem exec_dhShared (s : State) : exec .dhShared s =
    .next (s.commit (if s.A 0 < 2 then { rc := .invalidParam }
      else if ¬(1 ≤ s.A 4 ∧ s.A 4 < s.A 0) then { rc := .invalidParam, warn := softWarning (s.A 3) (s.A 0) }
      else { warn := softWarning (s.A 3) (s.A 0), r0 := modexp (s.A 4) (s.A 3) (s.A 0) })) := by
  change execDhShared s = _
  unfold execDhShared
  dsimp only
  split
  · rfl
  · split <;> rfl

theorem exec_dhPubkey_of_two_le {s : State} (hp : 2 ≤ s.A 0) : exec .dhPubkey s =
    .next (s.commit { warn := softWarning (s.A 3) (s.A 0), r0 := s.A 2 ^ s.A 3 % s.A 0 }) := by
  rw [exec_dhPubkey, if_neg hp.not_gt, modexp_eq _ _ hp]

theorem exec_dhShared_of_accepted {s : State} (hp : 2 ≤ s.A 0) (hpos : 1 ≤ s.A 4) (hlt : s.A 4 < s.A 0) :
    exec .dhShared s =
      .next (s.commit { warn := softWarning (s.A 3) (s.A 0), r0 := s.A 4 ^ s.A 3 % s.A 0 }) := by
  rw [exec_dhShared, if_neg hp.not_gt, if_neg (not_not_intro ⟨hpos, hlt⟩), modexp_eq _ _ hp]

/-- Settles O40: the warning asked for is the model's, and each clause is one branch of its command. -/
theorem dhCommandsReturnThePowerAndWarn : Obligations.DhCommandsReturnThePowerAndWarn := by
  refine ⟨decode_encode .dhPubkey, decode_encode .dhShared, ?_⟩
  rintro s _ _ w rfl rfl hw
  obtain rfl : softWarning (s.A 3) (s.A 0) = w := Bool.eq_iff_iff.2 ((softWarning_iff _ _).trans hw.symm)
  refine ⟨exec_dhPubkey_of_two_le, fun hp => ?_, exec_dhShared_of_accepted, fun hp hB => ?_, fun hp => ?_⟩
  · rw [exec_dhPubkey, if_pos hp]
  · have hrejected : ¬(1 ≤ s.A 4 ∧ s.A 4 < s.A 0) := by omega
    rw [exec_dhShared, if_neg hp.not_gt, if_pos hrejected]
  · rw [exec_dhShared, if_pos hp]

/-! ### Agreement -/

/-- One side of the agreement: a nonzero public key passes the range check of the other party's `DH_SHARED`, which
raises it to that party's private key. -/
theorem exec_dhShared_of_publicKey {s s' t : State} (hp : 2 ≤ s.A 0) (hkey : exec .dhPubkey s = .next s')
    (hmodulus : t.A 0 = s.A 0) (hremote : t.A 4 = s'.r.get 0) (hpos : 1 ≤ s'.r.get 0) :
    ∃ t', exec .dhShared t = .next t' ∧ t'.rc = .ok ∧ t'.r.get 0 = s.A 2 ^ (s.A 3 * t.A 3) % s.A 0 := by
  have hstate := Host.Outcome.next.inj ((exec_dhPubkey_of_two_le hp).symm.trans hkey)
  have hpublic : t.A 4 = s.A 2 ^ s.A 3 % s.A 0 := by
    rw [hremote, ← hstate]
    rfl
  have hlt : t.A 4 < t.A 0 := by
    rw [hpublic, hmodulus]
    exact Nat.mod_lt _ (by omega)
  refine ⟨_, exec_dhShared_of_accepted (hmodulus ▸ hp) (hremote ▸ hpos) hlt, rfl, ?_⟩
  calc t.A 4 ^ t.A 3 % t.A 0
      = (s.A 2 ^ s.A 3 % s.A 0) ^ t.A 3 % s.A 0 := by rw [hpublic, hmodulus]
    _ = s.A 2 ^ (s.A 3 * t.A 3) % s.A 0 := by rw [← Nat.pow_mod, ← pow_mul]

/-- Settles O41: each side raises the generator to both private keys, in its own order. -/
theorem dhSharedSecretsAgree : Obligations.DhSharedSecretsAgree := by
  rintro sa sb sa' sb' ta tb _ _ _ _ hp rfl rfl rfl hkeyA hpb hgb rfl hkeyB hpa ha hremoteA hposB hptb hb hremoteB hposA
  obtain ⟨ta', hsharedA, hokA, hsecretA⟩ :=
    exec_dhShared_of_publicKey (hpb ▸ hp) hkeyB (hpa.trans hpb.symm) hremoteA hposB
  obtain ⟨tb', hsharedB, hokB, hsecretB⟩ := exec_dhShared_of_publicKey hp hkeyA hptb hremoteB hposA
  rw [hgb, ha, hpb, mul_comm] at hsecretA
  rw [hb] at hsecretB
  exact ⟨ta', tb', hsharedA, hsharedB, hokA, hokB, hsecretA, hsecretB⟩

end Sys2Proof.Machine
end

section
/-! PROOF. The ElGamal commands (spec/43_elgamal.md): what each of the five completes with (R140 to R144), and the two
round trips for a prime modulus that does not divide the generator (R146). -/

namespace Sys2Proof.Machine

/-! ### Inverses -/

theorem coprime_of_mul_mod_eq_one {a v m : Nat} (hm : 2 ≤ m) (hv : a * v % m = 1) : Nat.gcd a m = 1 :=
  Nat.coprime_of_mul_modEq_one v (hv.trans (Nat.mod_eq_of_lt hm).symm)

/-- Any inverse gives the same residue as the one `mod_inverse` finds (spec/40_kernel.md R111). -/
theorem modInverse_modEq {a m v : Nat} (hm : 2 ≤ m) (hv : a * v % m = 1) : modInverse a m ≡ v [MOD m] := by
  have hcoprime := coprime_of_mul_mod_eq_one hm hv
  refine Nat.ModEq.cancel_left_of_coprime (c := a) (Nat.gcd_comm m a ▸ hcoprime) ?_
  exact (mul_modInverse_mod hm hcoprime).trans hv.symm

/-- Whatever has an inverse does not meet the zero sentinel (spec/40_kernel.md R111). -/
theorem modInverse_ne_zero {a m v : Nat} (hm : 2 ≤ m) (hv : a * v % m = 1) : modInverse a m ≠ 0 :=
  fun h0 => (modInverse_eq_zero_iff hm).1 h0 (coprime_of_mul_mod_eq_one hm hv)

/-- The product of a residue and a factor that is itself known up to a multiple of the modulus. -/
theorem mulmod_modZ_of_modEq {w w' m : Nat} (hm : 0 < m) (hw : w ≡ w' [MOD m]) (v : Int) :
    mulmod (modZ v m) w m = (v * w' % (m : Int)).toNat := by
  have hproduct : (modZ v m : Int) * w ≡ v * w' [ZMOD m] := by
    rw [modZ_cast v m hm]
    exact (Int.mod_modEq v m).mul (Int.natCast_modEq_iff.2 hw)
  exact congrArg Int.toNat hproduct

/-! ### Key generation and encryption -/

/-- `EG_KEYGEN` tests the modulus only (spec/43_elgamal.md R140). -/
theorem exec_egKeygen (s : State) : exec .egKeygen s =
    .next (s.commit (if s.A 0 < 2 then { rc := .invalidParam } else { r0 := modexp (s.A 2) (s.A 3) (s.A 0) })) := by
  rw [← modulusTest_eq]
  rfl

/-- `EG_ENCRYPT` tests the modulus only (spec/43_elgamal.md R141). -/
theorem exec_egEncrypt (s : State) : exec .egEncrypt s =
    .next (s.commit (if s.A 0 < 2 then { rc := .invalidParam }
      else { r0 := modexp (s.A 2) (s.A 6) (s.A 0),
             r1 := mulmod (s.A 5) (modexp (s.A 4) (s.A 6) (s.A 0)) (s.A 0) })) := by
  rw [← modulusTest_eq]
  rfl

theorem exec_egKeygen_of_two_le {s : State} (hp : 2 ≤ s.A 0) : exec .egKeygen s =
    .next (s.commit { r0 := s.A 2 ^ s.A 3 % s.A 0 }) := by
  rw [exec_egKeygen, if_neg hp.not_gt, modexp_eq _ _ hp]

theorem exec_egEncrypt_of_two_le {s : State} (hp : 2 ≤ s.A 0) : exec .egEncrypt s =
    .next (s.commit { r0 := s.A 2 ^ s.A 6 % s.A 0, r1 := s.A 5 * s.A 4 ^ s.A 6 % s.A 0 }) := by
  rw [exec_egEncrypt, if_neg hp.not_gt, modexp_eq _ _ hp, modexp_eq _ _ hp, mulmod_eq, Nat.mul_mod_mod]

/-- Settles O42: each of the two is the test of its modulus before its powers. -/
theorem egKeygenAndEncryptReturnThePowers : Obligations.EgKeygenAndEncryptReturnThePowers := by
  refine ⟨decode_encode .egKeygen, decode_encode .egEncrypt, ?_⟩
  rintro s _ rfl
  refine ⟨fun hp => ⟨exec_egKeygen_of_two_le hp, exec_egEncrypt_of_two_le hp⟩, fun hp => ⟨?_, ?_⟩⟩
  · rw [exec_egKeygen, if_pos hp]
  · rw [exec_egEncrypt, if_pos hp]

/-! ### Decryption -/

/-- `EG_DECRYPT` tests the modulus, then the zero sentinel of the shared value (spec/43_elgamal.md R142). -/
theorem exec_egDecrypt (s : State) : exec .egDecrypt s =
    .next (s.commit (if s.A 0 < 2 then { rc := .invalidParam }
      else if modInverse (modexp (s.A 7) (s.A 3) (s.A 0)) (s.A 0) = 0 then { rc := .invalidParam }
      else { r0 := mulmod (s.A 8) (modInverse (modexp (s.A 7) (s.A 3) (s.A 0)) (s.A 0)) (s.A 0) })) := by
  change execEgDecrypt s = _
  unfold execEgDecrypt
  dsimp only
  split
  · rfl
  · split <;> rfl

theorem exec_egDecrypt_of_inverse {s : State} {inv : Nat} (hp : 2 ≤ s.A 0)
    (hinv : s.A 7 ^ s.A 3 * inv % s.A 0 = 1) :
    exec .egDecrypt s = .next (s.commit { r0 := s.A 8 * inv % s.A 0 }) := by
  have hshared : s.A 7 ^ s.A 3 % s.A 0 * inv % s.A 0 = 1 := by rw [Nat.mod_mul_mod, hinv]
  have hquotient : s.A 8 * modInverse (s.A 7 ^ s.A 3 % s.A 0) (s.A 0) % s.A 0 = s.A 8 * inv % s.A 0 :=
    (modInverse_modEq hp hshared).mul_left (s.A 8)
  rw [exec_egDecrypt, if_neg hp.not_gt, modexp_eq _ _ hp, if_neg (modInverse_ne_zero hp hshared), mulmod_eq,
    hquotient]

theorem exec_egDecrypt_of_no_inverse {s : State} (hp : 2 ≤ s.A 0) (hgcd : Nat.gcd (s.A 7 ^ s.A 3) (s.A 0) ≠ 1) :
    exec .egDecrypt s = .next (s.commit { rc := .invalidParam }) := by
  have hshared : Nat.gcd (s.A 7 ^ s.A 3 % s.A 0) (s.A 0) ≠ 1 := by
    rwa [(Nat.mod_modEq (s.A 7 ^ s.A 3) (s.A 0)).gcd_eq]
  rw [exec_egDecrypt, if_neg hp.not_gt, modexp_eq _ _ hp, if_pos ((modInverse_eq_zero_iff hp).2 hshared)]

/-- Settles O43: an inverse of the power is one of the shared value, its residue. -/
theorem egDecryptDividesByTheSharedValue : Obligations.EgDecryptDividesByTheSharedValue := by
  refine ⟨decode_encode .egDecrypt, ?_⟩
  rintro s _ rfl
  refine ⟨fun _ => exec_egDecrypt_of_inverse, exec_egDecrypt_of_no_inverse, fun hp => ?_⟩
  rw [exec_egDecrypt, if_pos hp]

/-! ### Signing -/

/-- `EG_SIGN` tests the modulus, then `r`, then the zero sentinel of the nonce (spec/43_elgamal.md R143). -/
theorem exec_egSign (s : State) : exec .egSign s =
    .next (s.commit (if s.A 0 < 3 then { rc := .invalidParam }
      else if modexp (s.A 2) (s.A 6) (s.A 0) = 0 then { rc := .degenerate }
      else if modInverse (s.A 6) (s.A 0 - 1) = 0 then { rc := .degenerate }
      else { r0 := modexp (s.A 2) (s.A 6) (s.A 0),
             r1 := mulmod (modZ ((s.A 5 : Int) - (s.A 3 : Int) * modexp (s.A 2) (s.A 6) (s.A 0)) (s.A 0 - 1))
               (modInverse (s.A 6) (s.A 0 - 1)) (s.A 0 - 1) })) := by
  change execEgSign s = _
  unfold execEgSign
  dsimp only
  split
  · rfl
  · split
    · rfl
    · split <;> rfl

theorem exec_egSign_of_inverse {s : State} {r kinv : Nat} (hr : r = s.A 2 ^ s.A 6 % s.A 0) (hp : 3 ≤ s.A 0)
    (hr0 : r ≠ 0) (hkinv : s.A 6 * kinv % (s.A 0 - 1) = 1) :
    exec .egSign s = .next (s.commit
      { r0 := r, r1 := ((((s.A 5 : Int) - s.A 3 * r) * kinv) % ((s.A 0 - 1 : Nat) : Int)).toNat }) := by
  have hp1 : 2 ≤ s.A 0 - 1 := by omega
  rw [exec_egSign, if_neg hp.not_gt, modexp_eq _ _ (by omega), ← hr, if_neg hr0,
    if_neg (modInverse_ne_zero hp1 hkinv), mulmod_modZ_of_modEq (by omega) (modInverse_modEq hp1 hkinv)]

theorem exec_egSign_of_degenerate {s : State} {r : Nat} (hr : r = s.A 2 ^ s.A 6 % s.A 0) (hp : 3 ≤ s.A 0)
    (hcause : r = 0 ∨ Nat.gcd (s.A 6) (s.A 0 - 1) ≠ 1) :
    exec .egSign s = .next (s.commit { rc := .degenerate }) := by
  have hp1 : 2 ≤ s.A 0 - 1 := by omega
  rw [exec_egSign, if_neg hp.not_gt, modexp_eq _ _ (by omega), ← hr]
  by_cases hr0 : r = 0
  · rw [if_pos hr0]
  · have hgcd := hcause.resolve_left hr0
    rw [if_neg hr0, if_pos ((modInverse_eq_zero_iff hp1).2 hgcd)]

theorem exec_egSign_of_invalid {s : State} (hp : s.A 0 < 3) :
    exec .egSign s = .next (s.commit { rc := .invalidParam }) := by
  rw [exec_egSign, if_pos hp]

/-- Settles O44: any inverse of the nonce gives the residue that the command's own inverse gives. -/
theorem egSignReturnsTheSignature : Obligations.EgSignReturnsTheSignature := by
  refine ⟨decode_encode .egSign, ?_⟩
  rintro s _ r rfl hr
  exact ⟨fun _ => exec_egSign_of_inverse hr, exec_egSign_of_degenerate hr, exec_egSign_of_invalid⟩

/-! ### Verification -/

/-- `EG_VERIFY` tests the modulus, then the range of `r`, then the equation (spec/43_elgamal.md R144). -/
theorem exec_egVerify (s : State) : exec .egVerify s =
    .next (s.commit (if s.A 0 < 2 then { rc := .invalidParam }
      else if ¬(0 < s.A 7 ∧ s.A 7 < s.A 0) then { rc := .verifyFailed }
      else if mulmod (modexp (s.A 4) (s.A 7) (s.A 0)) (modexp (s.A 7) (s.A 8) (s.A 0)) (s.A 0) ≠
        modexp (s.A 2) (s.A 5) (s.A 0) then { rc := .verifyFailed }
      else { r0 := 1 })) := by
  change execEgVerify s = _
  unfold execEgVerify
  dsimp only
  split
  · rfl
  · split
    · rfl
    · split <;> rfl

/-- The left side of the equation, without the residues in between. -/
theorem mulmod_modexp_modexp (a b c d : Nat) {m : Nat} (hm : 2 ≤ m) :
    mulmod (modexp a b m) (modexp c d m) m = a ^ b * c ^ d % m := by
  rw [modexp_eq _ _ hm, modexp_eq _ _ hm, mulmod_eq, ← Nat.mul_mod]

theorem exec_egVerify_of_accepted {s : State} (hp : 2 ≤ s.A 0) (hpos : 0 < s.A 7) (hlt : s.A 7 < s.A 0)
    (heq : s.A 4 ^ s.A 7 * s.A 7 ^ s.A 8 % s.A 0 = s.A 2 ^ s.A 5 % s.A 0) :
    exec .egVerify s = .next (s.commit { r0 := 1 }) := by
  rw [exec_egVerify, if_neg hp.not_gt, if_neg (not_not_intro ⟨hpos, hlt⟩), mulmod_modexp_modexp _ _ _ _ hp,
    modexp_eq _ _ hp, if_neg (not_not_intro heq)]

theorem exec_egVerify_of_rejected {s : State} (hp : 2 ≤ s.A 0)
    (hcause : s.A 7 = 0 ∨ s.A 0 ≤ s.A 7 ∨ s.A 4 ^ s.A 7 * s.A 7 ^ s.A 8 % s.A 0 ≠ s.A 2 ^ s.A 5 % s.A 0) :
    exec .egVerify s = .next (s.commit { rc := .verifyFailed }) := by
  rw [exec_egVerify, if_neg hp.not_gt, mulmod_modexp_modexp _ _ _ _ hp, modexp_eq _ _ hp]
  by_cases hrange : 0 < s.A 7 ∧ s.A 7 < s.A 0
  · obtain ⟨hpos, hlt⟩ := hrange
    have hne := (hcause.resolve_left hpos.ne').resolve_left hlt.not_ge
    rw [if_neg (not_not_intro ⟨hpos, hlt⟩), if_pos hne]
  · rw [if_pos hrange]

/-- Settles O45: both rejecting branches end alike, so one clause covers the range and the equation. -/
theorem egVerifyAcceptsIffTheEquationHolds : Obligations.EgVerifyAcceptsIffTheEquationHolds := by
  refine ⟨decode_encode .egVerify, ?_⟩
  rintro s _ _ rfl rfl
  refine ⟨exec_egVerify_of_accepted, exec_egVerify_of_rejected, fun hp => ?_⟩
  rw [exec_egVerify, if_pos hp]

/-! ### Round trips -/

/-- Modulo a prime that does not divide the base, exponents count modulo `p - 1`. -/
theorem pow_modEq_pow_of_modEq {p g a b : Nat} (hp : p.Prime) (hg : g.Coprime p) (hab : a ≡ b [MOD p - 1]) :
    g ^ a ≡ g ^ b [MOD p] := by
  rw [← Nat.totient_prime hp] at hab
  calc g ^ a % p
      = g ^ (a % p.totient) % p := Nat.pow_totient_mod hp.one_lt hg
    _ = g ^ (b % p.totient) % p := by rw [hab]
    _ = g ^ b % p := (Nat.pow_totient_mod hp.one_lt hg).symm

/-- The exponents of a signature: `x r + k s` is the message modulo `p - 1` (spec/43_elgamal.md R143). -/
theorem signature_exponents_modEq {n m x r k kinv : Nat} (hn : 2 ≤ n) (hkinv : k * kinv % n = 1) :
    x * r + k * ((((m : Int) - x * r) * kinv) % (n : Int)).toNat ≡ m [MOD n] := by
  have hone : (k : Int) * kinv ≡ 1 [ZMOD n] := by
    exact_mod_cast Int.natCast_modEq_iff.2 (hkinv.trans (Nat.mod_eq_of_lt hn).symm)
  rw [← Int.natCast_modEq_iff]
  push_cast
  rw [Int.toNat_of_nonneg (Int.emod_nonneg _ (by omega))]
  calc (x : Int) * r + k * (((m : Int) - x * r) * kinv % n)
      ≡ x * r + k * (((m : Int) - x * r) * kinv) [ZMOD n] := ((Int.mod_modEq _ _).mul_left _).add_left _
    _ = x * r + (m - x * r) * (k * kinv) := by ring
    _ ≡ x * r + (m - x * r) * 1 [ZMOD n] := (hone.mul_left _).add_left _
    _ = m := by ring

/-- `EG_SIGN` ends with `OK` only on a valid modulus, with `r` not 0 and a nonce that has an inverse. -/
theorem exec_egSign_ok {s t : State} (h : exec .egSign s = .next t) (hok : t.rc = .ok) :
    3 ≤ s.A 0 ∧ t.r.get 0 = s.A 2 ^ s.A 6 % s.A 0 ∧ t.r.get 0 ≠ 0 ∧
      s.A 3 * t.r.get 0 + s.A 6 * t.r.get 1 ≡ s.A 5 [MOD s.A 0 - 1] := by
  rcases lt_or_ge (s.A 0) 3 with hp | hp
  · obtain rfl := Host.Outcome.next.inj ((exec_egSign_of_invalid hp).symm.trans h)
    cases hok
  · by_cases hcause : s.A 2 ^ s.A 6 % s.A 0 = 0 ∨ Nat.gcd (s.A 6) (s.A 0 - 1) ≠ 1
    · obtain rfl := Host.Outcome.next.inj ((exec_egSign_of_degenerate rfl hp hcause).symm.trans h)
      cases hok
    · obtain ⟨hr0, hgcd⟩ := not_or.1 hcause
      have hkinv := mul_modInverse_mod (by omega) (not_not.1 hgcd)
      obtain rfl := Host.Outcome.next.inj ((exec_egSign_of_inverse rfl hp hr0 hkinv).symm.trans h)
      exact ⟨hp, rfl, hr0, signature_exponents_modEq (by omega) hkinv⟩

/-- The shared value of the receiver, `c1 ^ x`, is the sender's, `y ^ k`, and dividing by it gives the message back
(spec/43_elgamal.md R146). -/
theorem exec_egDecrypt_of_encrypted {u : State} {g x k m : Nat} (hp : 2 ≤ u.A 0) (hg : g.Coprime (u.A 0))
    (hm : m < u.A 0) (hx : u.A 3 = x) (hc1 : u.A 7 = g ^ k % u.A 0)
    (hc2 : u.A 8 = m * (g ^ x % u.A 0) ^ k % u.A 0) :
    exec .egDecrypt u = .next (u.commit { r0 := m }) := by
  have hcoprime : Nat.gcd (g ^ (k * x)) (u.A 0) = 1 := hg.pow_left (k * x)
  have hinverse : g ^ (k * x) * modInverse (g ^ (k * x)) (u.A 0) % u.A 0 = 1 := mul_modInverse_mod hp hcoprime
  have hshared : u.A 7 ^ u.A 3 * modInverse (g ^ (k * x)) (u.A 0) % u.A 0 = 1 := by
    rw [← hinverse, hc1, hx, pow_mul]
    exact ((Nat.mod_modEq (g ^ k) (u.A 0)).pow x).mul_right _
  have hquotient : u.A 8 * modInverse (g ^ (k * x)) (u.A 0) ≡ m [MOD u.A 0] :=
    calc u.A 8 * modInverse (g ^ (k * x)) (u.A 0)
        ≡ m * (g ^ x) ^ k * modInverse (g ^ (k * x)) (u.A 0) [MOD u.A 0] := by
          rw [hc2]
          exact ((Nat.mod_modEq _ _).trans (((Nat.mod_modEq (g ^ x) (u.A 0)).pow k).mul_left m)).mul_right _
      _ = m * (g ^ (k * x) * modInverse (g ^ (k * x)) (u.A 0)) := by rw [← pow_mul, mul_comm x k, mul_assoc]
      _ ≡ m * 1 [MOD u.A 0] := Nat.ModEq.mul_left m (hinverse.trans (Nat.mod_eq_of_lt hp).symm)
      _ = m := mul_one m
  rw [exec_egDecrypt_of_inverse hp hshared, Nat.mod_eq_of_modEq hquotient hm]

/-- With `y = g ^ x` and `r = g ^ k` both sides of the verifier's equation are powers of `g`, whose exponents agree
modulo `p - 1` (spec/43_elgamal.md R143, R144). -/
theorem signature_equation {p g x k r sig m : Nat} (hp : p.Prime) (hg : g.Coprime p) (hr : r = g ^ k % p)
    (hexp : x * r + k * sig ≡ m [MOD p - 1]) : (g ^ x % p) ^ r * r ^ sig ≡ g ^ m [MOD p] := by
  have hy : (g ^ x % p) ^ r ≡ (g ^ x) ^ r [MOD p] := (Nat.mod_modEq _ _).pow r
  have hrs : r ^ sig ≡ (g ^ k) ^ sig [MOD p] := (hr ▸ Nat.mod_modEq (g ^ k) p : r ≡ g ^ k [MOD p]).pow sig
  calc (g ^ x % p) ^ r * r ^ sig
      ≡ (g ^ x) ^ r * (g ^ k) ^ sig [MOD p] := hy.mul hrs
    _ = g ^ (x * r + k * sig) := by rw [← pow_mul, ← pow_mul, ← pow_add]
    _ ≡ g ^ m [MOD p] := pow_modEq_pow_of_modEq hp hg hexp

/-- Settles O46: the first clause divides by the shared value, the second checks the equation of the signature. -/
theorem egRoundTripsForPrimeModulus : Obligations.EgRoundTripsForPrimeModulus := by
  intro s t u p g x hp hg hps hgs hpu
  have hcoprime : g.Coprime p := ((hp.coprime_iff_not_dvd).2 fun h => hg (Nat.mod_eq_zero_of_dvd h)).symm
  constructor
  · intro hy hm hencrypt hx hc1 hc2
    have hstate := Host.Outcome.next.inj ((exec_egEncrypt_of_two_le (hps ▸ hp.two_le)).symm.trans hencrypt)
    have hc1' : u.A 7 = g ^ s.A 6 % u.A 0 := by
      rw [hc1, ← hstate, hpu, ← hps, ← hgs]
      rfl
    have hc2' : u.A 8 = s.A 5 * (g ^ x % u.A 0) ^ s.A 6 % u.A 0 := by
      rw [hc2, ← hstate, hpu, ← hy, ← hps]
      rfl
    exact exec_egDecrypt_of_encrypted (hpu ▸ hp.two_le) (hpu ▸ hcoprime) (hpu ▸ hm) hx hc1' hc2'
  · intro hx hsign hok hgu hy hm hr hsig
    obtain ⟨-, hpower, hr0, hexp⟩ := exec_egSign_ok hsign hok
    rw [hgs, hps] at hpower
    rw [hx, hps] at hexp
    have heq := signature_equation hp hcoprime hpower hexp
    refine exec_egVerify_of_accepted (hpu ▸ hp.two_le) (hr ▸ Nat.pos_of_ne_zero hr0) ?_ ?_
    · rw [hr, hpower, hpu]
      exact Nat.mod_lt _ hp.pos
    · rw [hy, hr, hsig, hgu, hm, hpu]
      exact heq

end Sys2Proof.Machine
end

section
/-! PROOF. The DSA commands (spec/44_dsa.md): what each of the three completes with (R150 to R152), the round trip for a
generator of order dividing `q` (R153), and the range of the signatures that `DSA_SIGN` and `ECDSA_SIGN` return
(R153, spec/46_ec_schemes.md R185). -/

namespace Sys2Proof.Machine

/-! ### Key generation -/

/-- `DSA_KEYGEN` tests the modulus, then the range of the private key (spec/44_dsa.md R150). -/
theorem exec_dsaKeygen (s : State) : exec .dsaKeygen s =
    .next (s.commit (if s.A 0 < 2 then { rc := .invalidParam }
      else if ¬(0 < s.A 3 ∧ s.A 3 < s.A 1) then { rc := .invalidParam }
      else { r0 := modexp (s.A 2) (s.A 3) (s.A 0) })) := by
  change execDsaKeygen s = _
  unfold execDsaKeygen
  dsimp only
  split
  · rfl
  · split <;> rfl

/-- Settles O47: a private key is rejected exactly when it is 0 or at least `q`. -/
theorem dsaKeygenReturnsThePower : Obligations.DsaKeygenReturnsThePower := by
  refine ⟨decode_encode .dsaKeygen, fun s => ?_⟩
  rw [exec_dsaKeygen]
  refine ⟨fun hp hpos hlt => ?_, fun hcause => ?_⟩
  · rw [if_neg hp.not_gt, if_neg (not_not_intro ⟨hpos, hlt⟩), modexp_eq _ _ hp]
  · by_cases hp : s.A 0 < 2
    · rw [if_pos hp]
    · rw [if_neg hp, if_pos (by omega)]

/-! ### The end of a signing command -/

/-- What `DSA_SIGN` and `ECDSA_SIGN` end with once they have `r`: the three degenerate outcomes, or the pair of `r` and
`kinv m mod n`, with `m` the digest plus the product of `r` and the private key (spec/44_dsa.md R151,
spec/46_ec_schemes.md R181). -/
def signatureOutcome (n r k m : Nat) : CmdOutcome :=
  if r = 0 ∨ modInverse k n = 0 ∨ modInverse k n * m % n = 0 then { rc := .degenerate }
  else { r0 := r, r1 := modInverse k n * m % n }

/-- The tests of the two signing commands, in their order, are `signatureOutcome`. -/
theorem signatureTests_eq (s : State) (n r k h a b : Nat) :
    (if r = 0 then s.fail .degenerate
      else if modInverse k n = 0 then s.fail .degenerate
      else if mulmod (modInverse k n) (modZ ((h : Int) + (a : Int) * b) n) n = 0 then s.fail .degenerate
      else s.finish { r0 := r, r1 := mulmod (modInverse k n) (modZ ((h : Int) + (a : Int) * b) n) n }) =
    .next (s.commit (signatureOutcome n r k (h + a * b))) := by
  have hsum : modZ ((h : Int) + (a : Int) * b) n = (h + a * b) % n := by
    rw [← modZ_natCast]
    push_cast
    rfl
  rw [hsum, mulmod_eq, Nat.mul_mod_mod, signatureOutcome]
  by_cases hr : r = 0
  · rw [if_pos hr, if_pos (.inl hr), fail_eq]
  · by_cases hinv : modInverse k n = 0
    · rw [if_neg hr, if_pos hinv, if_pos (.inr (.inl hinv)), fail_eq]
    · by_cases hsig : modInverse k n * (h + a * b) % n = 0
      · rw [if_neg hr, if_neg hinv, if_pos hsig, if_pos (.inr (.inr hsig)), fail_eq]
      · rw [if_neg hr, if_neg hinv, if_neg hsig, if_neg (not_or.2 ⟨hr, not_or.2 ⟨hinv, hsig⟩⟩), finish_eq]

/-- Any inverse of the nonce decides between the pair and the degenerate outcome, and gives the pair. -/
theorem signatureOutcome_of_inverse {n r k kinv : Nat} (hn : 2 ≤ n) (hkinv : k * kinv % n = 1) (m : Nat) :
    signatureOutcome n r k m =
      if r = 0 ∨ kinv * m % n = 0 then { rc := .degenerate } else { r0 := r, r1 := kinv * m % n } := by
  have hsig : modInverse k n * m % n = kinv * m % n := (modInverse_modEq hn hkinv).mul_right m
  simp only [signatureOutcome, hsig, modInverse_ne_zero hn hkinv, false_or]

theorem signatureOutcome_of_degenerate {n r k : Nat} (hn : 2 ≤ n) (hcause : r = 0 ∨ Nat.gcd k n ≠ 1) (m : Nat) :
    signatureOutcome n r k m = { rc := .degenerate } := by
  rw [← modInverse_eq_zero_iff hn] at hcause
  exact if_pos (hcause.imp_right .inl)

/-- An outcome with `OK` is the pair, with neither component 0 and a nonce that has an inverse. -/
theorem signatureOutcome_ok {n r k m : Nat} (hok : (signatureOutcome n r k m).rc = .ok) :
    signatureOutcome n r k m = { r0 := r, r1 := modInverse k n * m % n } ∧
      r ≠ 0 ∧ modInverse k n ≠ 0 ∧ modInverse k n * m % n ≠ 0 := by
  unfold signatureOutcome at hok ⊢
  split at hok
  case isTrue => cases hok
  case isFalse hcause =>
    obtain ⟨hr, hinv, hsig⟩ := by simpa only [not_or] using hcause
    exact ⟨if_neg hcause, hr, hinv, hsig⟩

/-- Both components of a pair with `OK` are residues other than 0. -/
theorem signatureOutcome_inRange {n r k m : Nat} (hr : r < n) (hok : (signatureOutcome n r k m).rc = .ok) :
    0 < (signatureOutcome n r k m).r0 ∧ (signatureOutcome n r k m).r0 < n ∧
      0 < (signatureOutcome n r k m).r1 ∧ (signatureOutcome n r k m).r1 < n := by
  obtain ⟨hpair, hr0, -, hsig⟩ := signatureOutcome_ok hok
  rw [hpair]
  exact ⟨Nat.pos_of_ne_zero hr0, hr, Nat.pos_of_ne_zero hsig, Nat.mod_lt _ (by omega)⟩

/-! ### Signing -/

/-- `DSA_SIGN` tests the two moduli before it computes `r` (spec/44_dsa.md R151). -/
theorem exec_dsaSign (s : State) : exec .dsaSign s =
    .next (s.commit (if s.A 0 < 2 ∨ s.A 1 < 2 then { rc := .invalidParam }
      else signatureOutcome (s.A 1) (modexp (s.A 2) (s.A 6) (s.A 0) % s.A 1) (s.A 6)
        (s.A 5 + s.A 3 * (modexp (s.A 2) (s.A 6) (s.A 0) % s.A 1)))) := by
  change execDsaSign s = _
  unfold execDsaSign
  dsimp only
  split
  · rfl
  · rw [modZ_natCast]
    exact signatureTests_eq s _ _ _ _ _ _

theorem exec_dsaSign_of_two_le {s : State} {r : Nat} (hr : r = s.A 2 ^ s.A 6 % s.A 0 % s.A 1) (hp : 2 ≤ s.A 0)
    (hq : 2 ≤ s.A 1) :
    exec .dsaSign s = .next (s.commit (signatureOutcome (s.A 1) r (s.A 6) (s.A 5 + s.A 3 * r))) := by
  rw [exec_dsaSign, if_neg (by omega), modexp_eq _ _ hp, ← hr]

theorem exec_dsaSign_of_invalid {s : State} (h : s.A 0 < 2 ∨ s.A 1 < 2) :
    exec .dsaSign s = .next (s.commit { rc := .invalidParam }) := by
  rw [exec_dsaSign, if_pos h]

/-- Settles O48: past the tests of the moduli, any inverse of the nonce decides as the command's own inverse does. -/
theorem dsaSignReturnsTheSignature : Obligations.DsaSignReturnsTheSignature := by
  refine ⟨decode_encode .dsaSign, ?_⟩
  rintro s _ r rfl hr
  refine ⟨fun kinv hp hq hr0 hkinv hsig => ?_, fun kinv hp hq hkinv hsig => ?_, fun hp hq hcause => ?_,
    exec_dsaSign_of_invalid⟩
  · rw [exec_dsaSign_of_two_le hr hp hq, signatureOutcome_of_inverse hq hkinv, if_neg (not_or.2 ⟨hr0, hsig⟩)]
  · rw [exec_dsaSign_of_two_le hr hp hq, signatureOutcome_of_inverse hq hkinv, if_pos (.inr hsig)]
  · rw [exec_dsaSign_of_two_le hr hp hq, signatureOutcome_of_degenerate hq hcause]

/-- `DSA_SIGN` ends with `OK` only on valid moduli, and then with the outcome of its last tests. -/
theorem exec_dsaSign_ok {s t : State} {r : Nat} (hr : r = s.A 2 ^ s.A 6 % s.A 0 % s.A 1)
    (h : exec .dsaSign s = .next t) (hok : t.rc = .ok) :
    2 ≤ s.A 0 ∧ 2 ≤ s.A 1 ∧ t = s.commit (signatureOutcome (s.A 1) r (s.A 6) (s.A 5 + s.A 3 * r)) := by
  by_cases hinvalid : s.A 0 < 2 ∨ s.A 1 < 2
  · obtain rfl := Host.Outcome.next.inj ((exec_dsaSign_of_invalid hinvalid).symm.trans h)
    cases hok
  · have hp : 2 ≤ s.A 0 := by omega
    have hq : 2 ≤ s.A 1 := by omega
    exact ⟨hp, hq, Host.Outcome.next.inj (h.symm.trans (exec_dsaSign_of_two_le hr hp hq))⟩

/-! ### Verification -/

/-- `DSA_VERIFY` tests the two moduli, the range of the pair, the zero sentinel of `s`, then the recomputed value
(spec/44_dsa.md R152). -/
theorem exec_dsaVerify (s : State) : exec .dsaVerify s =
    .next (s.commit (if s.A 0 < 2 ∨ s.A 1 < 2 then { rc := .invalidParam }
      else if ¬(0 < s.A 7 ∧ s.A 7 < s.A 1 ∧ 0 < s.A 8 ∧ s.A 8 < s.A 1) then { rc := .verifyFailed }
      else if modInverse (s.A 8) (s.A 1) = 0 then { rc := .verifyFailed }
      else if mulmod (modexp (s.A 2) (mulmod (s.A 5) (modInverse (s.A 8) (s.A 1)) (s.A 1)) (s.A 0))
          (modexp (s.A 4) (mulmod (s.A 7) (modInverse (s.A 8) (s.A 1)) (s.A 1)) (s.A 0)) (s.A 0) % s.A 1 ≠ s.A 7
        then { rc := .verifyFailed }
      else { r0 := 1 })) := by
  change execDsaVerify s = _
  unfold execDsaVerify
  dsimp only
  rw [modZ_natCast]
  split
  · rfl
  · split
    · rfl
    · split
      · rfl
      · split <;> rfl

/-- With the pair in range, any inverse of `s` gives the value that the verifier compares. -/
theorem exec_dsaVerify_of_inverse {s : State} {w : Nat} (hp : 2 ≤ s.A 0) (hq : 2 ≤ s.A 1)
    (hrange : 0 < s.A 7 ∧ s.A 7 < s.A 1 ∧ 0 < s.A 8 ∧ s.A 8 < s.A 1) (hw : s.A 8 * w % s.A 1 = 1) :
    exec .dsaVerify s = .next (s.commit
      (if s.A 2 ^ (s.A 5 * w % s.A 1) * s.A 4 ^ (s.A 7 * w % s.A 1) % s.A 0 % s.A 1 ≠ s.A 7
        then { rc := .verifyFailed } else { r0 := 1 })) := by
  have hexponent (a : Nat) : mulmod a (modInverse (s.A 8) (s.A 1)) (s.A 1) = a * w % s.A 1 := by
    rw [mulmod_eq]
    exact (modInverse_modEq hq hw).mul_left a
  rw [exec_dsaVerify, if_neg (by omega), if_neg (not_not_intro hrange), if_neg (modInverse_ne_zero hq hw), hexponent,
    hexponent, mulmod_modexp_modexp _ _ _ _ hp]

theorem exec_dsaVerify_of_malformed {s : State} (hp : 2 ≤ s.A 0) (hq : 2 ≤ s.A 1)
    (hcause : s.A 7 = 0 ∨ s.A 1 ≤ s.A 7 ∨ s.A 8 = 0 ∨ s.A 1 ≤ s.A 8 ∨ Nat.gcd (s.A 8) (s.A 1) ≠ 1) :
    exec .dsaVerify s = .next (s.commit { rc := .verifyFailed }) := by
  rw [exec_dsaVerify, if_neg (by omega)]
  by_cases hrange : 0 < s.A 7 ∧ s.A 7 < s.A 1 ∧ 0 < s.A 8 ∧ s.A 8 < s.A 1
  · have hgcd : Nat.gcd (s.A 8) (s.A 1) ≠ 1 := by omega
    rw [if_neg (not_not_intro hrange), if_pos ((modInverse_eq_zero_iff hq).2 hgcd)]
  · rw [if_pos hrange]

/-- Settles O49: with the pair in range and an inverse, only the comparison is left; all rejections end alike. -/
theorem dsaVerifyAcceptsIffTheValueMatches : Obligations.DsaVerifyAcceptsIffTheValueMatches := by
  refine ⟨decode_encode .dsaVerify, ?_⟩
  rintro s _ _ _ _ _ _ _ rfl rfl rfl rfl rfl rfl rfl
  refine ⟨fun w hp hq hr hrq hz hzq hw => ?_, exec_dsaVerify_of_malformed, fun hinvalid => ?_⟩
  · rw [exec_dsaVerify_of_inverse hp hq ⟨hr, hrq, hz, hzq⟩ hw]
    refine ⟨fun hmatch => ?_, fun hmismatch => ?_⟩
    · rw [if_neg (not_not_intro hmatch)]
    · rw [if_pos hmismatch]
  · rw [exec_dsaVerify, if_pos hinvalid]

/-! ### The round trip -/

/-- For a base of order dividing `q` modulo `p`, exponents count modulo `q`. -/
theorem pow_modEq_pow_of_order {p q g a b : Nat} (hg : g ^ q ≡ 1 [MOD p]) (hab : a ≡ b [MOD q]) :
    g ^ a ≡ g ^ b [MOD p] := by
  rw [← ZMod.natCast_eq_natCast_iff] at hg ⊢
  push_cast at hg ⊢
  rw [pow_eq_pow_mod a hg, pow_eq_pow_mod b hg, hab]

/-- The nonce comes back: with `sig = kinv m`, an inverse `w` of `sig` takes `m` to `k` (spec/44_dsa.md R151, R152). -/
theorem mul_inverse_signature_modEq {q k kinv m sig w : Nat} (hq : 2 ≤ q) (hkinv : k * kinv % q = 1)
    (hsig : sig = kinv * m % q) (hw : sig * w % q = 1) : m * w ≡ k [MOD q] := by
  have hone : 1 % q = 1 := Nat.mod_eq_of_lt hq
  have hkinv' : k * kinv ≡ 1 [MOD q] := hkinv.trans hone.symm
  have hw' : sig * w ≡ 1 [MOD q] := hw.trans hone.symm
  have hsig' : kinv * m ≡ sig [MOD q] := hsig ▸ (Nat.mod_modEq _ _).symm
  calc m * w
      = 1 * (m * w) := (one_mul _).symm
    _ ≡ k * kinv * (m * w) [MOD q] := hkinv'.symm.mul_right _
    _ = k * (kinv * m * w) := by ring
    _ ≡ k * (sig * w) [MOD q] := (hsig'.mul_right w).mul_left k
    _ ≡ k * 1 [MOD q] := hw'.mul_left k
    _ = k := mul_one k

/-- With `y = g ^ x` the verifier's product is the power of `g` whose exponent is `(h + x r) w`, so `k`
(spec/44_dsa.md R152). -/
theorem dsa_equation {p q g x h r k w : Nat} (hg : g ^ q ≡ 1 [MOD p]) (hexp : (h + x * r) * w ≡ k [MOD q]) :
    g ^ (h * w % q) * (g ^ x % p) ^ (r * w % q) ≡ g ^ k [MOD p] := by
  have hexp' : h * w % q + x * (r * w % q) ≡ k [MOD q] :=
    calc h * w % q + x * (r * w % q)
        ≡ h * w + x * (r * w) [MOD q] := (Nat.mod_modEq _ _).add ((Nat.mod_modEq _ _).mul_left x)
      _ = (h + x * r) * w := by ring
      _ ≡ k [MOD q] := hexp
  calc g ^ (h * w % q) * (g ^ x % p) ^ (r * w % q)
      ≡ g ^ (h * w % q) * (g ^ x) ^ (r * w % q) [MOD p] := ((Nat.mod_modEq _ _).pow _).mul_left _
    _ = g ^ (h * w % q + x * (r * w % q)) := by rw [← pow_mul, ← pow_add]
    _ ≡ g ^ k [MOD p] := pow_modEq_pow_of_order hg hexp'

/-- Settles O50: `s` is a residue other than 0 of a prime, so it has an inverse, and the value the verifier compares is
`g ^ k`, from which the signer took `r`. -/
theorem dsaSignaturesVerify : Obligations.DsaSignaturesVerify := by
  intro s t u hprime hg hsign hok hp hq hgu hy hh hr hsig
  obtain ⟨hp2, hq2, rfl⟩ := exec_dsaSign_ok rfl hsign hok
  obtain ⟨hr0, hrq, hs0, hsq⟩ := signatureOutcome_inRange (Nat.mod_lt _ hprime.pos) hok
  obtain ⟨hpair, -, hkinv, -⟩ := signatureOutcome_ok hok
  have hgcd := not_not.1 ((modInverse_eq_zero_iff hq2).not.1 hkinv)
  simp only [State.commit_r, vector3_get_zero, vector3_get_one, hpair] at hr hsig
  simp only [hpair] at hr0 hrq hs0 hsq
  rw [← hr] at hr0 hrq
  rw [← hsig] at hs0 hsq
  have hinverse : u.A 8 * modInverse (u.A 8) (s.A 1) % s.A 1 = 1 :=
    mul_modInverse_mod hq2 (Nat.coprime_of_lt_prime hs0.ne' hsq hprime).symm
  have hexp := mul_inverse_signature_modEq hq2 (mul_modInverse_mod hq2 hgcd) hsig hinverse
  have hvalue := dsa_equation (hg.trans (Nat.mod_eq_of_lt hp2).symm) hexp
  rw [exec_dsaVerify_of_inverse (hp ▸ hp2) (hq ▸ hq2) (hq ▸ ⟨hr0, hrq, hs0, hsq⟩) (hq ▸ hinverse), if_neg]
  rw [hp, hq, hgu, hy, hh, hr]
  exact not_not_intro (congrArg (· % s.A 1) hvalue)

/-! ### The range of returned signatures -/

/-- `ECDSA_SIGN` with the identity as its multiple of the base point never ends with `OK`
(spec/46_ec_schemes.md R181). -/
theorem exec_ecdsaSign_of_infinity {s : State} (hP : scalarMult (s.A 6) (s.P 0) (s.A 0) (s.A 1) = .infinity) :
    exec .ecdsaSign s =
      .next (s.commit (if s.A 0 < 2 ∨ s.A 3 < 2 then { rc := .invalidParam } else { rc := .degenerate })) := by
  change execEcdsaSign s = _
  unfold execEcdsaSign
  dsimp only
  rw [hP]
  split <;> rfl

/-- With an affine multiple `ECDSA_SIGN` takes `r` from the abscissa and ends as `DSA_SIGN` does
(spec/46_ec_schemes.md R181). -/
theorem exec_ecdsaSign_of_affine {s : State} {x y : Nat}
    (hP : scalarMult (s.A 6) (s.P 0) (s.A 0) (s.A 1) = .affine x y) :
    exec .ecdsaSign s = .next (s.commit (if s.A 0 < 2 ∨ s.A 3 < 2 then { rc := .invalidParam }
      else signatureOutcome (s.A 3) (x % s.A 3) (s.A 6) (s.A 5 + x % s.A 3 * s.A 4))) := by
  change execEcdsaSign s = _
  unfold execEcdsaSign
  dsimp only
  rw [hP]
  split
  · rfl
  · rw [← modZ_natCast]
    exact signatureTests_eq s _ _ _ _ _ _

/-- `ECDSA_SIGN` ends with `OK` only on valid moduli and an affine multiple, and then with the outcome of its last
tests. -/
theorem exec_ecdsaSign_ok {s t : State} (h : exec .ecdsaSign s = .next t) (hok : t.rc = .ok) :
    ∃ x y, scalarMult (s.A 6) (s.P 0) (s.A 0) (s.A 1) = .affine x y ∧ 2 ≤ s.A 0 ∧ 2 ≤ s.A 3 ∧
      t = s.commit (signatureOutcome (s.A 3) (x % s.A 3) (s.A 6) (s.A 5 + x % s.A 3 * s.A 4)) := by
  cases hP : scalarMult (s.A 6) (s.P 0) (s.A 0) (s.A 1) with
  | infinity =>
    obtain rfl := Host.Outcome.next.inj ((exec_ecdsaSign_of_infinity hP).symm.trans h)
    rw [State.commit_rc] at hok
    split at hok <;> cases hok
  | affine x y =>
    obtain rfl := Host.Outcome.next.inj ((exec_ecdsaSign_of_affine hP).symm.trans h)
    by_cases hinvalid : s.A 0 < 2 ∨ s.A 3 < 2
    · rw [if_pos hinvalid] at hok
      cases hok
    · exact ⟨x, y, rfl, by omega, by omega, by rw [if_neg hinvalid]⟩

/-- Settles O51: both commands end as `signatureOutcome` does, with `r` a residue. -/
theorem returnedSignaturesAreInRange : Obligations.ReturnedSignaturesAreInRange := by
  intro s t
  constructor
  · intro h hok
    obtain ⟨-, hq, rfl⟩ := exec_dsaSign_ok rfl h hok
    exact signatureOutcome_inRange (Nat.mod_lt _ (by omega)) hok
  · intro h hok
    obtain ⟨x, y, -, -, hn, rfl⟩ := exec_ecdsaSign_ok h hok
    exact signatureOutcome_inRange (Nat.mod_lt _ (by omega)) hok

end Sys2Proof.Machine
end

section
/-! PROOF. What the functions of the elliptic-curve engine compute: membership is the equation in naturals
(spec/45_ec_group.md R161), the sum of two points is the identity or comes from the slope's fraction (R163, R164), a
point and its reflection cancel (R166, R170), and double-and-add is the sum over the set bits (R168). -/

namespace Sys2Proof.Machine

/-! ### Membership -/

theorem isOnCurve_affine (x y p a b : Nat) :
    isOnCurve (.affine x y) p a b = decide (y * y % p = (x * x * x + a * x + b) % p) := by
  have hsquare : modZ ((y : Int) * y) p = y * y % p := mulmod_eq y y p
  have hcubic : modZ ((x : Int) * x * x + a * x + b) p = (x * x * x + a * x + b) % p := by
    rw [← modZ_natCast]
    push_cast
    rfl
  rw [isOnCurve, hsquare, hcubic]
  rfl

/-! ### The sum from the slope's fraction -/

/-- The fraction's division fails when the denominator has no inverse, whatever representative it is given by
(spec/45_ec_group.md R163). -/
theorem pointFromFraction_of_no_inverse {p : Nat} {den : Int} (hp : 2 ≤ p) (hgcd : Int.gcd den p ≠ 1)
    (num x1 y1 x2 : Nat) : pointFromFraction num (modZ den p) x1 y1 x2 p = .infinity := by
  have hresidue : Nat.gcd (modZ den p) p = Int.gcd den p := by
    rw [← Int.gcd_natCast_natCast, modZ_cast den p (by omega), Int.gcd_emod]
  exact if_pos ((modInverse_eq_zero_iff hp).2 (hresidue ▸ hgcd))

/-- Any inverse of the denominator gives the slope (spec/45_ec_group.md R163). -/
theorem pointFromFraction_of_inverse {p : Nat} {den inv : Int} (hp : 2 ≤ p) (hinv : den * inv % p = 1)
    (num : Int) (x1 y1 x2 : Nat) :
    pointFromFraction (modZ num p) (modZ den p) x1 y1 x2 p = pointFromSlope (modZ (num * inv) p) x1 y1 x2 p := by
  have hresidue : modZ den p * modZ inv p % p = 1 := by
    have hcast : ((modZ den p * modZ inv p % p : Nat) : Int) = 1 := by
      push_cast
      rw [modZ_cast den p (by omega), modZ_cast inv p (by omega), ← Int.mul_emod, hinv]
    exact_mod_cast hcast
  have hslope : mulmod (modZ num p) (modInverse (modZ den p) p) p = modZ (num * inv) p := by
    rw [mulmod_modZ_of_modEq (by omega) (modInverse_modEq hp hresidue), modZ_cast inv p (by omega)]
    exact congrArg Int.toNat ((Int.mod_modEq inv p).mul_left num)
  rw [← hslope]
  exact if_neg (modInverse_ne_zero hp hresidue)

/-- The coordinates of the sum over the integers (spec/45_ec_group.md R164). -/
theorem pointFromSlope_eq {p x1 y1 x2 : Nat} {v lam x3 : Int} (hp : 0 < p) (hlam : lam = v % p)
    (hx3 : x3 = (lam * lam - x1 - x2) % p) :
    pointFromSlope (modZ v p) x1 y1 x2 p = .affine x3.toNat ((lam * ((x1 : Int) - x3) - y1) % p).toNat := by
  subst hx3
  rw [pointFromSlope, modZ_cast v p hp, ← hlam, modZ_cast _ p hp]
  rfl

/-! ### Addition -/

@[simp] theorem pointAdd_infinity_left (Q : Point) (p a : Nat) : pointAdd .infinity Q p a = Q := rfl

@[simp] theorem pointAdd_infinity_right (P : Point) (p a : Nat) : pointAdd P .infinity p a = P := by
  cases P <;> rfl

/-- Two points with one abscissa whose ordinates cancel (spec/45_ec_group.md R163). -/
theorem pointAdd_of_cancel {y1 y2 p : Nat} (x a : Nat) (h : (y1 + y2) % p = 0) :
    pointAdd (.affine x y1) (.affine x y2) p a = .infinity := by
  rw [← addmod_eq] at h
  rw [pointAdd_affine]
  exact if_pos ⟨rfl, h⟩

/-- Every other sum of affine points is that of the tangent's or the chord's fraction (spec/45_ec_group.md R163). -/
theorem pointAdd_of_fraction {x1 y1 x2 y2 p a : Nat} {num den : Int} (hcancel : ¬(x1 = x2 ∧ (y1 + y2) % p = 0))
    (htangent : x1 = x2 ∧ y1 = y2 → num = 3 * (x1 : Int) * x1 + a ∧ den = 2 * (y1 : Int))
    (hchord : ¬(x1 = x2 ∧ y1 = y2) → num = (y2 : Int) - y1 ∧ den = (x2 : Int) - x1) :
    pointAdd (.affine x1 y1) (.affine x2 y2) p a = pointFromFraction (modZ num p) (modZ den p) x1 y1 x2 p := by
  rw [← addmod_eq] at hcancel
  rw [pointAdd_affine]
  refine (if_neg hcancel).trans ?_
  split
  case isTrue hsame =>
    obtain ⟨rfl, rfl⟩ := htangent hsame
    rfl
  case isFalse hdifferent =>
    obtain ⟨rfl, rfl⟩ := hchord hdifferent
    rfl

/-! ### Negation -/

/-- A point and its reflection cancel: `y + (p - y)` is a multiple of `p`, also for a `y` that is no residue
(spec/45_ec_group.md R166, R170). -/
theorem pointAdd_pointNeg (P : Point) {p : Nat} (a : Nat) (hp : 0 < p) :
    pointAdd P (pointNeg P p) p a = .infinity := by
  cases P with
  | infinity => rfl
  | affine x y =>
    have hcast : (((y + modZ ((p : Int) - y) p) % p : Nat) : Int) = 0 := by
      push_cast
      rw [modZ_cast _ p hp, Int.add_emod_emod, add_sub_cancel, Int.emod_self]
    exact pointAdd_of_cancel x a (by exact_mod_cast hcast)

/-! ### Double-and-add -/

/-- Bits above the scalar add nothing. -/
theorem sumOfSetBits_add_of_lt {k n : Nat} (hk : k < 2 ^ n) (P : Point) (p a m : Nat) :
    sumOfSetBits k P p a (n + m) = sumOfSetBits k P p a n := by
  induction m with
  | zero => rfl
  | succ m ih =>
    have hbit : k.testBit (n + m) = false :=
      Nat.testBit_lt_two_pow (hk.trans_le (Nat.pow_le_pow_right two_pos (Nat.le_add_right n m)))
    rw [← Nat.add_assoc, sumOfSetBits, hbit, if_neg Bool.false_ne_true, ih]

/-- Every width that holds the scalar gives the same sum. -/
theorem sumOfSetBits_eq_of_lt {k n m : Nat} (hn : k < 2 ^ n) (hm : k < 2 ^ m) (P : Point) (p a : Nat) :
    sumOfSetBits k P p a n = sumOfSetBits k P p a m := by
  rw [← sumOfSetBits_add_of_lt hn P p a m, Nat.add_comm, sumOfSetBits_add_of_lt hm]

/-- The loop's invariant: after `n` rounds the accumulator is the sum over the low `n` bits, the addend is `P` doubled
`n` times, and the other bits are to come (spec/45_ec_group.md R168). -/
theorem scalarMultLoop_eq (k : Nat) (P : Point) (p a fuel n : Nat) :
    scalarMultLoop p a fuel (sumOfSetBits k P p a n) (doubled P p a n) (k / 2 ^ n) =
      sumOfSetBits k P p a (n + fuel) := by
  induction fuel generalizing n with
  | zero => rfl
  | succ fuel ih =>
    by_cases he : k / 2 ^ n = 0
    · have hk : k < 2 ^ n := (Nat.div_eq_zero_iff_lt (Nat.two_pow_pos n)).1 he
      rw [he, scalarMultLoop_zero, sumOfSetBits_add_of_lt hk]
    · have hbit : k / 2 ^ n % 2 = 1 ↔ k.testBit n = true := by
        rw [Nat.testBit_eq_decide_div_mod_eq, decide_eq_true_iff]
      have hrest : k / 2 ^ n / 2 = k / 2 ^ (n + 1) := by rw [Nat.div_div_eq_div_mul, ← pow_succ]
      simp only [scalarMultLoop_succ _ _ _ _ _ _ he, hbit, hrest]
      rw [show n + (fuel + 1) = n + 1 + fuel by omega]
      exact ih (n + 1)

/-- Double-and-add is the sum over the set bits, in every width that holds the scalar (spec/45_ec_group.md R168). -/
theorem scalarMult_eq {k bits : Nat} (hk : k < 2 ^ bits) (P : Point) (p a : Nat) :
    scalarMult k P p a = sumOfSetBits k P p a bits := by
  have hloop := scalarMultLoop_eq k P p a (k.log2 + 1) 0
  rw [pow_zero, Nat.div_one, Nat.zero_add] at hloop
  exact hloop.trans (sumOfSetBits_eq_of_lt Nat.lt_log2_self hk P p a)

theorem doubled_infinity (p a n : Nat) : doubled .infinity p a n = .infinity := by
  induction n with
  | zero => rfl
  | succ n ih => rw [doubled, ih, pointAdd_infinity_left]

theorem sumOfSetBits_infinity (k p a n : Nat) : sumOfSetBits k .infinity p a n = .infinity := by
  induction n with
  | zero => rfl
  | succ n ih => rw [sumOfSetBits, ih, doubled_infinity, pointAdd_infinity_left, ite_self]

@[simp] theorem scalarMult_zero (P : Point) (p a : Nat) : scalarMult 0 P p a = .infinity := rfl

@[simp] theorem scalarMult_one (P : Point) (p a : Nat) : scalarMult 1 P p a = P := rfl

@[simp] theorem scalarMult_infinity (k p a : Nat) : scalarMult k .infinity p a = .infinity := by
  rw [scalarMult_eq Nat.lt_log2_self, sumOfSetBits_infinity]

end Sys2Proof.Machine
end

section
/-! PROOF. The statements of spec/45_ec_group.md: each of the four commands tests its modulus and then completes with
its function of the points (R162, R165, R167, R169), and the two group laws of the source (R170). -/

namespace Sys2Proof.Machine

/-! ### Membership -/

theorem exec_ecOncurve (s : State) : exec .ecOncurve s =
    .next (s.commit (if s.A 0 < 2 then { rc := .invalidParam }
      else { r0 := if isOnCurve (s.P 0) (s.A 0) (s.A 1) (s.A 2) then 1 else 0 })) := by
  rw [← modulusTest_eq, apply_ite (fun v => s.finish { r0 := v })]
  rfl

/-- Settles O52: the answer 1 or 0 is the predicate's value at the point. -/
theorem ecOncurveAnswersTheEquation : Obligations.EcOncurveAnswersTheEquation := by
  refine ⟨decode_encode .ecOncurve, ?_⟩
  rintro s _ rfl
  refine ⟨fun hp hP => ?_, fun x y hp hP => ?_, fun hp => ?_⟩
  · rw [exec_ecOncurve, if_neg hp.not_gt, hP]
    rfl
  · simp only [exec_ecOncurve, if_neg hp.not_gt, hP, isOnCurve_affine, decide_eq_true_eq]
  · rw [exec_ecOncurve, if_pos hp]

/-! ### Addition -/

theorem exec_ecPadd (s : State) : exec .ecPadd s =
    .next (s.commit (if s.A 0 < 2 then { rc := .invalidParam }
      else { pr0 := some (pointAdd (s.P 0) (s.P 1) (s.A 0) (s.A 1)) })) := by
  rw [← modulusTest_eq]
  rfl

theorem exec_ecPadd_of_sum {s : State} {P : Point} (hp : 2 ≤ s.A 0)
    (hsum : pointAdd (s.P 0) (s.P 1) (s.A 0) (s.A 1) = P) :
    exec .ecPadd s = .next (s.commit { pr0 := some P }) := by
  rw [exec_ecPadd, if_neg hp.not_gt, hsum]

theorem exec_ecPadd_of_infinity_left {s : State} (hp : 2 ≤ s.A 0) (hP : s.P 0 = .infinity) :
    exec .ecPadd s = .next (s.commit { pr0 := some (s.P 1) }) :=
  exec_ecPadd_of_sum hp (by rw [hP, pointAdd_infinity_left])

theorem exec_ecPadd_of_infinity_right {s : State} (hp : 2 ≤ s.A 0) (hQ : s.P 1 = .infinity) :
    exec .ecPadd s = .next (s.commit { pr0 := some (s.P 0) }) :=
  exec_ecPadd_of_sum hp (by rw [hQ, pointAdd_infinity_right])

/-- Settles O53: the sum of the two points, case by case of R163. -/
theorem ecPaddFollowsTheCaseList : Obligations.EcPaddFollowsTheCaseList := by
  refine ⟨decode_encode .ecPadd, ?_⟩
  rintro s _ rfl
  refine ⟨exec_ecPadd_of_infinity_left, exec_ecPadd_of_infinity_right, fun x1 y1 x2 y2 hp hP hQ => ⟨?_, ?_⟩,
    fun hp => ?_⟩
  · rintro rfl hcancel
    exact exec_ecPadd_of_sum hp (by rw [hP, hQ, pointAdd_of_cancel _ _ hcancel])
  · intro num den hcancel htangent hchord
    have hfraction := pointAdd_of_fraction hcancel htangent hchord
    rw [← hP, ← hQ] at hfraction
    refine ⟨fun hgcd => ?_, fun inv lam x3 hinv hlam hx3 => ?_⟩
    · exact exec_ecPadd_of_sum hp (hfraction.trans (pointFromFraction_of_no_inverse hp hgcd ..))
    · rw [pointFromFraction_of_inverse hp hinv, pointFromSlope_eq (by omega) hlam hx3] at hfraction
      exact exec_ecPadd_of_sum hp hfraction
  · rw [exec_ecPadd, if_pos hp]

/-! ### Negation -/

theorem exec_ecPneg (s : State) : exec .ecPneg s =
    .next (s.commit (if s.A 0 < 2 then { rc := .invalidParam } else { pr0 := some (pointNeg (s.P 0) (s.A 0)) })) := by
  rw [← modulusTest_eq]
  rfl

/-- Settles O54: the reflection of the point. -/
theorem ecPnegReflectsTheOrdinate : Obligations.EcPnegReflectsTheOrdinate := by
  refine ⟨decode_encode .ecPneg, ?_⟩
  rintro s _ rfl
  refine ⟨fun hp hP => ?_, fun x y hp hP => ?_, fun hp => ?_⟩
  · rw [exec_ecPneg, if_neg hp.not_gt, hP]
    rfl
  · rw [exec_ecPneg, if_neg hp.not_gt, hP]
    rfl
  · rw [exec_ecPneg, if_pos hp]

/-- Settles O56: `EC_PADD` finds the reflection that `EC_PNEG` returned, and the two cancel whatever the ordinate, so
the bound on it is not needed. -/
theorem groupLawsOfTheSource : Obligations.GroupLawsOfTheSource := by
  intro s hp
  refine ⟨exec_ecPadd_of_infinity_right hp, exec_ecPadd_of_infinity_left hp, fun t u _ hneg hmodulus hP hQ => ?_⟩
  rw [exec_ecPneg, if_neg hp.not_gt] at hneg
  obtain rfl := Host.Outcome.next.inj hneg
  rw [State.commit_pr, vector2_get_zero, pointResult_some, toPoint_toReg] at hQ
  refine exec_ecPadd_of_sum (hmodulus ▸ hp) ?_
  rw [hP, hQ, hmodulus, pointAdd_pointNeg _ _ (by omega)]

/-! ### Scalar multiplication -/

theorem exec_ecPmul (s : State) : exec .ecPmul s =
    .next (s.commit (if s.A 0 < 2 then { rc := .invalidParam }
      else { pr0 := some (scalarMult (s.A 6) (s.P 0) (s.A 0) (s.A 1)) })) := by
  rw [← modulusTest_eq]
  rfl

/-- Settles O55: the loop of double-and-add is the sum over the set bits in any width that holds the scalar. -/
theorem ecPmulAddsTheDoublingsOfTheSetBits : Obligations.EcPmulAddsTheDoublingsOfTheSetBits := by
  refine ⟨decode_encode .ecPmul, fun s => ⟨fun bits hp hk => ?_, fun hp => ?_⟩, fun k p a P => ?_⟩
  · rw [exec_ecPmul, if_neg hp.not_gt, scalarMult_eq hk]
  · rw [exec_ecPmul, if_pos hp]
  · exact ⟨scalarMult_zero P p a, scalarMult_infinity k p a, scalarMult_one P p a⟩

end Sys2Proof.Machine
end

section
/-! PROOF. The statements of spec/46_ec_schemes.md: what each of the five commands completes with, past the tests of its
moduli (R180 to R184). -/

namespace Sys2Proof.Machine

/-! ### Key generation -/

/-- `EC_KEYGEN` tests the modulus, then the base point (spec/46_ec_schemes.md R180). -/
theorem exec_ecKeygen (s : State) : exec .ecKeygen s =
    .next (s.commit (if s.A 0 < 2 then { rc := .invalidParam }
      else if !isOnCurve (s.P 0) (s.A 0) (s.A 1) (s.A 2) then { rc := .invalidParam }
      else { pr0 := some (scalarMult (s.A 4) (s.P 0) (s.A 0) (s.A 1)) })) := by
  change execEcKeygen s = _
  unfold execEcKeygen
  dsimp only
  split
  · rfl
  · split <;> rfl

theorem exec_ecKeygen_of_onCurve {s : State} (hp : 2 ≤ s.A 0)
    (hcurve : isOnCurve (s.P 0) (s.A 0) (s.A 1) (s.A 2) = true) :
    exec .ecKeygen s = .next (s.commit { pr0 := some (scalarMult (s.A 4) (s.P 0) (s.A 0) (s.A 1)) }) := by
  rw [exec_ecKeygen, if_neg hp.not_gt, hcurve]
  rfl

theorem exec_ecKeygen_of_offCurve {s : State} (hp : 2 ≤ s.A 0)
    (hcurve : isOnCurve (s.P 0) (s.A 0) (s.A 1) (s.A 2) = false) :
    exec .ecKeygen s = .next (s.commit { rc := .invalidParam }) := by
  rw [exec_ecKeygen, if_neg hp.not_gt, hcurve]
  rfl

/-- Settles O57: the identity is on every curve and an affine point where the equation holds; the multiple is then that
of the point. -/
theorem ecKeygenValidatesTheBasePoint : Obligations.EcKeygenValidatesTheBasePoint := by
  refine ⟨decode_encode .ecKeygen, ?_⟩
  rintro s _ rfl
  refine ⟨fun hp hP => ?_, fun x y hp hP heq => ?_, fun x y hp hP hne => ?_, fun hp => ?_⟩
  · rw [exec_ecKeygen_of_onCurve hp (by rw [hP]; rfl), hP, scalarMult_infinity]
  · rw [exec_ecKeygen_of_onCurve hp (by rw [hP, isOnCurve_affine, decide_eq_true heq]), hP]
  · exact exec_ecKeygen_of_offCurve hp (by rw [hP, isOnCurve_affine, decide_eq_false hne])
  · rw [exec_ecKeygen, if_pos hp]

/-! ### ECDSA signing -/

theorem exec_ecdsaSign_of_invalid {s : State} (h : s.A 0 < 2 ∨ s.A 3 < 2) :
    exec .ecdsaSign s = .next (s.commit { rc := .invalidParam }) := by
  cases hP : scalarMult (s.A 6) (s.P 0) (s.A 0) (s.A 1) with
  | infinity => rw [exec_ecdsaSign_of_infinity hP, if_pos h]
  | affine x y => rw [exec_ecdsaSign_of_affine hP, if_pos h]

/-- An identity, an abscissa that is a multiple of the order, or a nonce without an inverse
(spec/46_ec_schemes.md R181). -/
theorem exec_ecdsaSign_of_degenerate {s : State} {R : Point} (hR : R = scalarMult (s.A 6) (s.P 0) (s.A 0) (s.A 1))
    (hp : 2 ≤ s.A 0) (hn : 2 ≤ s.A 3)
    (hcause : R = .infinity ∨ (∃ x y, R = .affine x y ∧ x % s.A 3 = 0) ∨ Nat.gcd (s.A 6) (s.A 3) ≠ 1) :
    exec .ecdsaSign s = .next (s.commit { rc := .degenerate }) := by
  have hvalid : ¬(s.A 0 < 2 ∨ s.A 3 < 2) := by omega
  cases R with
  | infinity => rw [exec_ecdsaSign_of_infinity hR.symm, if_neg hvalid]
  | affine x y =>
    have hcause' : x % s.A 3 = 0 ∨ Nat.gcd (s.A 6) (s.A 3) ≠ 1 := by simpa using hcause
    rw [exec_ecdsaSign_of_affine hR.symm, if_neg hvalid, signatureOutcome_of_degenerate hn hcause']

/-- Settles O58: past the tests of the moduli, an affine multiple leaves the tests of `DSA_SIGN`, which any inverse of
the nonce decides. -/
theorem ecdsaSignReturnsTheSignature : Obligations.EcdsaSignReturnsTheSignature := by
  refine ⟨decode_encode .ecdsaSign, ?_⟩
  rintro s _ _ R rfl rfl hR
  refine ⟨?_, exec_ecdsaSign_of_degenerate hR, exec_ecdsaSign_of_invalid⟩
  rintro x y kinv _ hp hn rfl rfl hr0 hkinv
  rw [exec_ecdsaSign_of_affine hR.symm, if_neg (by omega), signatureOutcome_of_inverse hn hkinv]
  refine ⟨fun hsig => ?_, fun hsig => ?_⟩
  · rw [if_neg (not_or.2 ⟨hr0, hsig⟩)]
  · rw [if_pos (.inr hsig)]

/-! ### ECDSA verification -/

/-- What `ECDSA_VERIFY` ends with once it has its point: only an affine point whose abscissa is `r` modulo the order is
accepted (spec/46_ec_schemes.md R182). -/
def abscissaOutcome (P : Point) (n r : Nat) : CmdOutcome :=
  match P with
  | .infinity => { rc := .verifyFailed }
  | .affine x _ => if x % n ≠ r then { rc := .verifyFailed } else { r0 := 1 }

@[simp] theorem abscissaOutcome_infinity (n r : Nat) : abscissaOutcome .infinity n r = { rc := .verifyFailed } := rfl

@[simp] theorem abscissaOutcome_affine (x y n r : Nat) :
    abscissaOutcome (.affine x y) n r = if x % n ≠ r then { rc := .verifyFailed } else { r0 := 1 } := rfl

/-- `ECDSA_VERIFY` tests the two moduli, the pair against 0, the zero sentinel of `s`, then the point
(spec/46_ec_schemes.md R182). -/
theorem exec_ecdsaVerify (s : State) : exec .ecdsaVerify s =
    .next (s.commit (if s.A 0 < 2 ∨ s.A 3 < 2 then { rc := .invalidParam }
      else if s.A 7 = 0 ∨ s.A 8 = 0 then { rc := .verifyFailed }
      else if modInverse (s.A 8) (s.A 3) = 0 then { rc := .verifyFailed }
      else abscissaOutcome
        (pointAdd (scalarMult (mulmod (s.A 5) (modInverse (s.A 8) (s.A 3)) (s.A 3)) (s.P 0) (s.A 0) (s.A 1))
          (scalarMult (mulmod (s.A 7) (modInverse (s.A 8) (s.A 3)) (s.A 3)) (s.P 1) (s.A 0) (s.A 1)) (s.A 0) (s.A 1))
        (s.A 3) (s.A 7))) := by
  change execEcdsaVerify s = _
  unfold execEcdsaVerify
  dsimp only
  split
  · rfl
  · split
    · rfl
    · split
      · rfl
      · split
        next hP => rw [hP, abscissaOutcome_infinity, fail_eq]
        next x y hP =>
          rw [hP, abscissaOutcome_affine, modZ_natCast]
          split <;> rfl

/-- With `r` not 0, any inverse of `s` gives the point whose abscissa the verifier compares. -/
theorem exec_ecdsaVerify_of_inverse {s : State} {w : Nat} (hp : 2 ≤ s.A 0) (hn : 2 ≤ s.A 3) (hr : s.A 7 ≠ 0)
    (hw : s.A 8 * w % s.A 3 = 1) :
    exec .ecdsaVerify s = .next (s.commit (abscissaOutcome
      (pointAdd (scalarMult (s.A 5 * w % s.A 3) (s.P 0) (s.A 0) (s.A 1))
        (scalarMult (s.A 7 * w % s.A 3) (s.P 1) (s.A 0) (s.A 1)) (s.A 0) (s.A 1)) (s.A 3) (s.A 7))) := by
  have hs : s.A 8 ≠ 0 := by
    intro h0
    simp [h0] at hw
  have hscalar (a : Nat) : mulmod a (modInverse (s.A 8) (s.A 3)) (s.A 3) = a * w % s.A 3 := by
    rw [mulmod_eq]
    exact (modInverse_modEq hn hw).mul_left a
  rw [exec_ecdsaVerify, if_neg (by omega), if_neg (not_or.2 ⟨hr, hs⟩), if_neg (modInverse_ne_zero hn hw), hscalar,
    hscalar]

theorem exec_ecdsaVerify_of_malformed {s : State} (hp : 2 ≤ s.A 0) (hn : 2 ≤ s.A 3)
    (hcause : s.A 7 = 0 ∨ s.A 8 = 0 ∨ Nat.gcd (s.A 8) (s.A 3) ≠ 1) :
    exec .ecdsaVerify s = .next (s.commit { rc := .verifyFailed }) := by
  rw [exec_ecdsaVerify, if_neg (by omega)]
  by_cases hzero : s.A 7 = 0 ∨ s.A 8 = 0
  · rw [if_pos hzero]
  · have hgcd : Nat.gcd (s.A 8) (s.A 3) ≠ 1 := (or_assoc.2 hcause).resolve_left hzero
    rw [if_neg hzero, if_pos ((modInverse_eq_zero_iff hn).2 hgcd)]

/-- Settles O59: with `r` not 0 and an inverse of `s`, only the comparison of the abscissa is left; all rejections end
alike. -/
theorem ecdsaVerifyAcceptsIffTheAbscissaMatches : Obligations.EcdsaVerifyAcceptsIffTheAbscissaMatches := by
  refine ⟨decode_encode .ecdsaVerify, ?_⟩
  rintro s _ _ _ _ _ _ rfl rfl rfl rfl rfl rfl
  refine ⟨fun w P hp hn hr hw hP => ?_, exec_ecdsaVerify_of_malformed, fun hinvalid => ?_⟩
  · rw [exec_ecdsaVerify_of_inverse hp hn hr hw, ← hP]
    refine ⟨fun x y hxy hmatch => ?_, fun x y hxy hmismatch => ?_, fun hinfinity => ?_⟩
    · rw [hxy, abscissaOutcome_affine, if_neg (not_not_intro hmatch)]
    · rw [hxy, abscissaOutcome_affine, if_pos hmismatch]
    · rw [hinfinity, abscissaOutcome_infinity]
  · rw [exec_ecdsaVerify, if_pos hinvalid]

/-! ### Elliptic-curve ElGamal -/

theorem exec_ecegEncrypt (s : State) : exec .ecegEncrypt s =
    .next (s.commit (if s.A 0 < 2 then { rc := .invalidParam }
      else { pr0 := some (scalarMult (s.A 6) (s.P 0) (s.A 0) (s.A 1)),
             pr1 := some (pointAdd (s.P 2) (scalarMult (s.A 6) (s.P 1) (s.A 0) (s.A 1)) (s.A 0) (s.A 1)) })) := by
  rw [← modulusTest_eq]
  rfl

theorem exec_ecegDecrypt (s : State) : exec .ecegDecrypt s =
    .next (s.commit (if s.A 0 < 2 then { rc := .invalidParam }
      else { pr0 := some (pointAdd (s.P 1) (pointNeg (scalarMult (s.A 4) (s.P 0) (s.A 0) (s.A 1)) (s.A 0))
        (s.A 0) (s.A 1)) })) := by
  rw [← modulusTest_eq]
  rfl

/-- Settles O60: the test of the modulus is the only one of each command. -/
theorem ecegCommandsCombineThePoints : Obligations.EcegCommandsCombineThePoints := by
  refine ⟨decode_encode .ecegEncrypt, decode_encode .ecegDecrypt, ?_⟩
  rintro s _ _ rfl rfl
  rw [exec_ecegEncrypt, exec_ecegDecrypt]
  refine ⟨fun hp => ?_, fun hp => ?_⟩
  · exact ⟨by rw [if_neg hp.not_gt], by rw [if_neg hp.not_gt]⟩
  · exact ⟨by rw [if_pos hp], by rw [if_pos hp]⟩

end Sys2Proof.Machine
end

section
/-! PROOF. The statements of spec/60_exceptions.md: how each command can end (R200 to R202, R208), read off one pass
over the 31 commands, and the interrupt line (R210). -/

namespace Sys2Proof.Machine

/-! ### How a command ends -/

/-- The codes other than `OK` that a command can end with (spec/60_exceptions.md R202). -/
def failureCodes : Instr → List RC
  | .xgcd => []
  | .modinv => [.invalidParam, .noInverse]
  | .egSign | .dsaSign | .ecdsaSign => [.invalidParam, .degenerate]
  | .egVerify | .dsaVerify | .ecdsaVerify => [.invalidParam, .verifyFailed]
  | _ => [.invalidParam]

theorem ok_notMem_failureCodes (i : Instr) : RC.ok ∉ failureCodes i := by
  cases i
  all_goals decide

/-- The commands that compare and answer in `R0` and `RC` alike (spec/60_exceptions.md R208). -/
def comparingVerifiers : List Instr := [.egVerify, .dsaVerify, .ecdsaVerify]

/-- The two ways a command ends: with `OK`, which a comparing verifier gives only with the answer 1 (R208), or by
`fail(code)` with a code of its row (R202) and no warning but that of `DH_SHARED` (R200, R133). -/
inductive EndsByTable (i : Instr) : CmdOutcome → Prop
  | success {o : CmdOutcome} (hrc : o.rc = .ok) (hanswer : i ∈ comparingVerifiers → o.r0 = 1) : EndsByTable i o
  | failure {code : RC} {warn : Bool} (hcode : code ∈ failureCodes i) (hwarn : warn = true → i = .dhShared) :
      EndsByTable i (.failure code warn)

namespace EndsByTable
variable {i : Instr} {s : State} {o : CmdOutcome}

theorem rc_eq_ok_or_mem (h : EndsByTable i o) : o.rc = .ok ∨ o.rc ∈ failureCodes i := by
  cases h with
  | success hrc _ => exact .inl hrc
  | failure hcode _ => exact .inr hcode

/-- An outcome with another code than `OK` holds nothing but the code and the warning. -/
theorem eq_failure (h : EndsByTable i o) (hne : o.rc ≠ .ok) :
    o = .failure o.rc o.warn ∧ (o.warn = true → i = .dhShared) := by
  cases h with
  | success hrc _ => exact absurd hrc hne
  | failure _ hwarn => exact ⟨rfl, hwarn⟩

theorem answer_iff (h : EndsByTable i o) (hi : i ∈ comparingVerifiers) : o.r0 = 1 ↔ o.rc = .ok := by
  cases h with
  | success hrc hanswer => exact iff_of_true (hanswer hi) hrc
  | failure hcode _ => exact iff_of_false Nat.zero_ne_one fun hok => ok_notMem_failureCodes i (hok ▸ hcode)

/-! The three steps of the pass: a result, the answer "yes", a test that fails. -/

theorem result (hrc : o.rc = .ok) (hi : i ∉ comparingVerifiers := by decide) :
    CompletesWith (EndsByTable i) s (s.finish o) :=
  .finish (.success hrc fun h => absurd h hi)

theorem yes : CompletesWith (EndsByTable i) s (s.finish { r0 := 1 }) := .finish (.success rfl fun _ => rfl)

theorem fail {code : RC} (hcode : code ∈ failureCodes i := by decide) :
    CompletesWith (EndsByTable i) s (s.fail code) :=
  .finish (.failure hcode nofun)

theorem failOr {c : Prop} {_ : Decidable c} {code : RC} {y : Outcome} (h : CompletesWith (EndsByTable i) s y)
    (hcode : code ∈ failureCodes i := by decide) : CompletesWith (EndsByTable i) s (if c then s.fail code else y) :=
  .branch (fail hcode) h

end EndsByTable

section
variable (s : State)

open CompletesWith (finish branch)
open EndsByTable (result yes fail failOr)

/-- The warning of `DH_SHARED` stands when the remote key is rejected after it (spec/42_dh.md R133). -/
theorem execDhShared_endsByTable : CompletesWith (EndsByTable .dhShared) s (execDhShared s) :=
  failOr (branch (finish (.failure (by decide) fun _ => rfl)) (result rfl))

theorem execEcdsaSign_endsByTable : CompletesWith (EndsByTable .ecdsaSign) s (execEcdsaSign s) := by
  refine failOr ?_
  split
  · exact fail
  · exact failOr (failOr (failOr (result rfl)))

theorem execEcdsaVerify_endsByTable : CompletesWith (EndsByTable .ecdsaVerify) s (execEcdsaVerify s) := by
  refine failOr (failOr (failOr ?_))
  dsimp only
  split
  · exact fail
  · exact failOr yes

/-- Every command, grouped by the number of its tests before the result. -/
theorem exec_endsByTable (i : Instr) : CompletesWith (EndsByTable i) s (exec i s) := by
  cases i with
  | xgcd => exact result rfl
  | dhShared => exact execDhShared_endsByTable s
  | modadd | modsub | modmul | modmac | modexp | rsaEncrypt | rsaDecrypt | rsaSign | rsaVerify | dhPubkey | egKeygen |
    egEncrypt | ecPadd | ecPneg | ecPmul | ecegEncrypt | ecegDecrypt => exact failOr (result rfl)
  | modinv | egDecrypt | dsaKeygen | ecKeygen => exact failOr (failOr (result rfl))
  | ecOncurve => exact failOr (branch (result rfl) (result rfl))
  | egSign => exact failOr (failOr (failOr (result rfl)))
  | rsaKeygen | dsaSign => exact failOr (failOr (failOr (failOr (result rfl))))
  | egVerify => exact failOr (failOr (failOr yes))
  | dsaVerify => exact failOr (failOr (failOr (failOr yes)))
  | ecdsaSign => exact execEcdsaSign_endsByTable s
  | ecdsaVerify => exact execEcdsaVerify_endsByTable s

end

theorem exec_next_endsByTable {i : Instr} {s t : State} (he : exec i s = .next t) :
    ∃ o, EndsByTable i o ∧ t = s.commit o := by
  obtain ⟨o, ho, hs⟩ := exec_endsByTable s i
  exact ⟨o, ho, Host.Outcome.next.inj (he.symm.trans hs)⟩

/-! ### The interrupt line -/

theorem irq_iff (s : State) : s.irq = true ↔ s.ie = true ∧ s.done = true := Bool.and_eq_true_iff

@[simp] theorem commit_irq (s : State) (o : CmdOutcome) : (s.commit o).irq = s.ie := Bool.and_true s.ie

@[simp] theorem launch_irq (s : State) (w : Word) : (s.launch w).irq = false := Bool.and_false s.ie

@[simp] theorem resetCore_irq (s : State) : s.resetCore.irq = false := rfl

@[simp] theorem writeStatus_irq (s : State) (w : Word) : (s.writeStatus w).irq = (s.irq && !w.getLsbD 1) :=
  (Bool.and_assoc s.ie s.done (!w.getLsbD 1)).symm

@[simp] theorem writeCtrl_irq (s : State) (w : Word) : (s.writeCtrl w).irq = (w.getLsbD 0 && s.done) := rfl

/-- Settles O16: the line follows `IE` and `DONE`, and each operation's effect on the two is known. -/
theorem interruptLineFollowsDoneAndEnable : Obligations.InterruptLineFollowsDoneAndEnable := by
  intro s o w
  rw [writeWord_status, writeWord_ctrl]
  exact ⟨irq_iff s, commit_irq s o, launch_irq s w, resetCore_irq s, writeStatus_irq s w, writeCtrl_irq s w⟩

/-! ### The result codes -/

/-- Settles O9: the completion writes an outcome that is a failure, so zeros and its code. -/
theorem failedCommandLeavesZeroResults : Obligations.FailedCommandLeavesZeroResults := by
  intro i s t he hne
  obtain ⟨o, ho, rfl⟩ := exec_next_endsByTable he
  obtain ⟨hfailure, hwarn⟩ := ho.eq_failure hne
  refine ⟨?_, ?_, ?_, ?_, rfl, rfl, commit_irq s o, hwarn, commit_sameOutsideResults s o⟩
  all_goals
    rw [hfailure]
    rfl

/-- Settles O12: row by row, the statement's list is `OK` and the command's failure codes. -/
theorem resultCodesPerCommand : Obligations.ResultCodesPerCommand := by
  intro i s t he
  obtain ⟨o, ho, rfl⟩ := exec_next_endsByTable he
  have hmem : (s.commit o).rc ∈ RC.ok :: failureCodes i := List.mem_cons.2 ho.rc_eq_ok_or_mem
  cases i
  all_goals exact hmem

theorem failureCodes_of_comparingVerifier {i : Instr} (hi : i ∈ comparingVerifiers) :
    failureCodes i = [.invalidParam, .verifyFailed] := by
  simp only [comparingVerifiers, List.mem_cons, List.not_mem_nil, or_false] at hi
  rcases hi with rfl | rfl | rfl
  all_goals rfl

/-- Settles O14: a comparing verifier ends with the answer 1 and `OK`, or by a failure, whose `R0` is 0. -/
theorem verifierAnswerMirrorsResultCode : Obligations.VerifierAnswerMirrorsResultCode := by
  intro i s t hi he
  replace hi : i ∈ comparingVerifiers := by simpa [comparingVerifiers] using hi
  obtain ⟨o, ho, rfl⟩ := exec_next_endsByTable he
  refine ⟨ho.answer_iff hi, fun hne => ⟨?_, ?_⟩⟩
  · obtain ⟨hfailure, -⟩ := ho.eq_failure hne
    rw [hfailure]
    rfl
  · have hcode : o.rc ∈ failureCodes i := ho.rc_eq_ok_or_mem.resolve_left hne
    rw [failureCodes_of_comparingVerifier hi] at hcode
    simpa [or_comm] using hcode

end Sys2Proof.Machine
end
